-- ==== Sys2Proof/Word.lean ====
section
/-! DEFINITION. The word types of the TL48's counters and frame fields (00_scope.md section 5).
Quantities that the spec bounds or saturates are `Nat` or `Int`; only fields of frames and counters that
the spec says wrap are bit vectors. -/

namespace Sys2Proof

/-- A byte of a frame. -/
abbrev Byte := BitVec 8

/-- A two-byte field of a frame, or a 16-bit wrapping counter. -/
abbrev Half := BitVec 16

/-- A four-byte field of a frame, or a 32-bit wrapping counter. -/
abbrev Word := BitVec 32

/-- The 48-bit fraction-tick accumulator (R136). -/
abbrev Word48 := BitVec 48

end Sys2Proof
end

