-- ==== Sys2Proof/Config.lean ====
section
/-! DEFINITION. What is fixed for every TL48 (00_scope.md TABLE 0(d), 0(e); 12 TABLE 12(a)) and the free values: the bytes of
reply codes that the spec gives a width but no value (assumption log 6 and 7). -/

namespace Sys2Proof.Config

/-- Sites 0..4095 (TABLE 0(d)). -/
abbrev numSites : Nat := 4096
/-- Groups 0..63 (TABLE 0(d)). -/
abbrev numGroups : Nat := 64
/-- Products 0..7 (TABLE 0(d)). -/
abbrev numProducts : Nat := 8
/-- Commitment ids 0..511 (TABLE 0(d)). -/
abbrev numIds : Nat := 512
/-- Intervals of the horizon, and slots of the Grid ring (R15). -/
abbrev horizon : Nat := 96
/-- Entries the deficit list can take (R74). -/
abbrev deficitCapacity : Nat := 64
/-- Records the settlement queue can take (R95). -/
abbrev settlementCapacity : Nat := 64
/-- Request slots of a port (R165). -/
abbrev numSlots : Nat := 4
/-- The greatest interval number the clock interval takes (R10, R13). -/
abbrev lastInterval : Nat := 4294967199
/-- The code of NONE for a product or a group in a frame (TABLE 12(d) note 2). -/
abbrev noneCode : Byte := 255#8
/-- The greatest body a request frame may declare (R166). -/
abbrev maxBody : Nat := 296
/-- The type byte of a WRITE (TABLE 12(a)). -/
abbrev writeType : Byte := 0xA1#8
/-- The type byte of a READ (TABLE 12(a)). -/
abbrev readType : Byte := 0xA2#8
/-- The type byte of a LINK_RESET (TABLE 12(a)). -/
abbrev linkResetType : Byte := 0xA5#8
/-- The times an ADMISSION job may be abandoned before it is immune (R90). -/
abbrev immuneAt : Nat := 3

/-- The named values that replies carry in one byte and whose byte the spec does not list (R168 gives
states and codes one byte each; TABLE 12(c), 12(d) and R173 list the codes of others). -/
inductive UnlistedCode
  | ramping | holding | ending
  | endedByDeactivate | endedBySustain | endedByInterval
  | fromGrid | fromUft | fromOft
  | guardNormal | guardRunning
  | gateDelivery | gateClosed | gateOpen | gatePast
  | orderCreated | orderRetargeted | orderEnded | orderUnchanged
  deriving DecidableEq, Repr

/-- FREE VALUE (log 6): the byte that stands for a named value the spec gives no code for. -/
opaque codeByte : UnlistedCode → Byte

/-- FREE VALUE (log 7): the byte of a deficit kinds mask, for the kinds PUP, PDN, EUP and EDN it holds.
R168 gives the mask one byte; no rule places its bits. -/
opaque kindsByte : Bool → Bool → Bool → Bool → Byte

end Sys2Proof.Config
end

