-- ==== Sys2Proof/Syntax.lean ====
section
/-! DEFINITION. The commands of the TL48: one constructor of `Instr` for each row of spec/opcode_table.json,
and the requests and transfers they carry. Fields of request frames have the widths of TABLE 12(b). -/

namespace Sys2Proof

/-- The three SPI target ports (TABLE 0(a)). -/
inductive Port
  | market | grid | fleet
  deriving DecidableEq, Repr

/-- The two trip lines (TABLE 0(d)). -/
inductive Line
  | uft | oft
  deriving DecidableEq, Repr

/-- How a device reset began (R174). -/
inductive ResetCause
  | powerOn | pin
  deriving DecidableEq, Repr

/-- How much of a job in progress a command covers: all that is left of it, as the table's indivisible step
(95_what_each_step_holds.md), or its next event only (log 4). -/
inductive Extent
  | whole | event
  deriving DecidableEq, Repr

/-- How much of a READ transfer a command covers (R164, R167): the whole transfer, its type byte alone, or its
end; `clocked` is the number of bytes the part was clocked for after the type byte, the status byte first. -/
inductive ReadPart
  | whole (clocked : Nat)
  | typeByte
  | finish (clocked : Nat)
  deriving DecidableEq, Repr

/-- A row whose request the engine works as a job, in its two forms (log 5): the request presented on a
port as a WRITE of its frame, or the next event of its job in progress. -/
inductive JobForm (α : Type)
  | request (port : Port) (tag : Byte) (args : α)
  | job
  deriving DecidableEq, Repr

/-- CONFIGURE_MARKET's body (TABLE 12(b)). -/
structure MarketArgs where
  length : Half
  lead : Byte
  near : Byte
  margin : Byte
  holdover : Half
  deriving DecidableEq, Repr

/-- PRODUCT_SET's body: the product number and the 13-byte product record of TABLE 12(d). -/
structure ProductArgs where
  product : Byte
  direction : Byte
  fullTicks : Half
  verifyDelay : Half
  sustain : Byte
  minimum : Half
  step : Half
  tolerance : Half
  enabled : Byte
  deriving DecidableEq, Repr

/-- HOLD's body. -/
structure HoldArgs where
  product : Byte
  zone : Byte
  first : Word
  count : Byte
  quantity : Half
  deriving DecidableEq, Repr

/-- AWARD's body. -/
structure AwardArgs where
  id : Half
  issue : Byte
  quantity : Half
  deriving DecidableEq, Repr

/-- RELEASE's body. -/
structure ReleaseArgs where
  id : Half
  issue : Byte
  deriving DecidableEq, Repr

/-- QUERY_HEADROOM's body. -/
structure QueryArgs where
  product : Byte
  zone : Byte
  first : Word
  count : Byte
  deriving DecidableEq, Repr

/-- LIST_COMMITMENTS' body. -/
structure ListArgs where
  filter : Byte
  start : Half
  deriving DecidableEq, Repr

/-- ACTIVATE's body; the fraction is signed. -/
structure ActivateArgs where
  product : Byte
  fraction : Half
  deriving DecidableEq, Repr

/-- SITE_SET's body. -/
structure SiteArgs where
  site : Half
  group : Byte
  energy : Half
  discharge : Half
  charge : Half
  floor : Half
  deriving DecidableEq, Repr

/-- GROUP_SET's body. -/
structure GroupArgs where
  group : Byte
  zone : Byte
  curveClass : Byte
  ceiling : Half
  deriving DecidableEq, Repr

/-- CURVE_SET's body: sixteen values, band 0 first. -/
structure CurveArgs where
  curveClass : Byte
  direction : Byte
  values : List Half
  deriving DecidableEq, Repr

/-- One telemetry report (TABLE 12(d)); the measured power is signed. -/
structure Report where
  site : Half
  soc : Half
  status : Byte
  measured : Half
  deriving DecidableEq, Repr

/-- One forecast entry of a FORECAST body. -/
structure ForecastArgs where
  pUp : Half
  pDn : Half
  eUp : Half
  eDn : Half
  deriving DecidableEq, Repr

/-- FORECAST's body; its count is the number of entries. -/
structure ForecastBody where
  group : Byte
  first : Word
  entries : List ForecastArgs
  deriving DecidableEq, Repr

/-- A request of each kind of TABLE 12(b), with its body's fields. -/
inductive Request
  | timeSet (interval : Word) (second : Half)
  | configureMarket (a : MarketArgs)
  | productSet (a : ProductArgs)
  | hold (a : HoldArgs)
  | award (a : AwardArgs)
  | release (a : ReleaseArgs)
  | queryHeadroom (a : QueryArgs)
  | readSettlement
  | productRead (product : Byte)
  | readCommitment (id : Half)
  | listCommitments (a : ListArgs)
  | readDeficits (start : Byte)
  | activate (a : ActivateArgs)
  | deactivate (product : Byte)
  | armTrip (line : Byte) (product : Byte)
  | configureGrid (guard : Byte) (qualification : Byte)
  | readActivations
  | readCapture
  | clearCapture
  | siteSet (a : SiteArgs)
  | groupSet (a : GroupArgs)
  | curveSet (a : CurveArgs)
  | telemetry (reports : List Report)
  | forecast (a : ForecastBody)
  | configureFleet (staleLimit : Half) (rollupPeriod : Half)
  | setpointChanges
  | readSetpoints (first : Half) (count : Byte)
  | readGroup (group : Byte)
  | readStatus
  | readNotices
  | setAttention (mask : Half) (threshold : Byte)
  deriving DecidableEq, Repr

/-- The commands: one constructor for each row of spec/opcode_table.json, in the table's order. -/
inductive Instr
  | deviceReset (cause : ResetCause)
  | resetRelease
  | tickEvent
  | secondMark
  | boundaryEvent
  | ppsPulse
  | missingPulse
  | holdoverToFailed
  | rollupPeriodExpiry
  | tripLineAssert (line : Line)
  | tripLineDeassert (line : Line)
  | tripQualified (line : Line)
  | sustainLimit (product : Nat)
  | guardEnd (group : Nat)
  | write (port : Port) (bytes : List Byte)
  | read (port : Port) (part : ReadPart)
  | linkReset (port : Port)
  | timeSet (port : Port) (tag : Byte) (interval : Word) (second : Half)
  | configureMarket (form : JobForm MarketArgs)
  | productSet (form : JobForm ProductArgs)
  | productRead (form : JobForm Byte)
  | hold (form : JobForm HoldArgs)
  | queryHeadroom (form : JobForm QueryArgs)
  | award (form : JobForm AwardArgs)
  | release (form : JobForm ReleaseArgs)
  | readSettlement (form : JobForm Unit)
  | readCommitment (form : JobForm Half)
  | listCommitments (form : JobForm ListArgs)
  | readDeficits (form : JobForm Byte)
  | readGroup (form : JobForm Byte)
  | activate (form : JobForm ActivateArgs)
  | deactivate (form : JobForm Byte)
  | tripJob
  | armTrip (port : Port) (tag : Byte) (line : Byte) (product : Byte)
  | configureGrid (port : Port) (tag : Byte) (guard : Byte) (qualification : Byte)
  | readActivations (port : Port) (tag : Byte)
  | readCapture (port : Port) (tag : Byte)
  | clearCapture (port : Port) (tag : Byte)
  | siteSet (form : JobForm SiteArgs)
  | groupSet (form : JobForm GroupArgs)
  | curveSet (form : JobForm CurveArgs)
  | telemetry (port : Port) (tag : Byte) (reports : List Report)
  | forecast (form : JobForm ForecastBody)
  | configureFleet (port : Port) (tag : Byte) (staleLimit : Half) (rollupPeriod : Half)
  | setpointChanges (port : Port) (tag : Byte)
  | readSetpoints (port : Port) (tag : Byte) (first : Half) (count : Byte)
  | readStatus (port : Port) (tag : Byte)
  | readNotices (port : Port) (tag : Byte)
  | setAttention (port : Port) (tag : Byte) (mask : Half) (threshold : Byte)
  | rollover (extent : Extent)
  | rollup (extent : Extent)
  | dispatch
  | powerFail
  deriving DecidableEq, Repr

end Sys2Proof
end

