-- ==== Sys2Proof/Decode.lean ====
section
/-! DEFINITION. The commands that bytes and words spell: a transfer's type byte and the commands a transfer brings (TABLE 12(a)),
and the command of a table word. spec/opcode_table.json gives no row any bits: the TL48's commands are transfers, pulses, pins
and events, so no word spells one. -/

namespace Sys2Proof

/-- The three types of transfer (TABLE 12(a)). -/
inductive TransferType
  | write | read | linkReset
  deriving DecidableEq, Repr

/-- The type that a first byte names, `none` for any other byte (TABLE 12(a), R164). -/
def transferType (b : Byte) : Option TransferType :=
  if b = Config.writeType then some .write
  else if b = Config.readType then some .read
  else if b = Config.linkResetType then some .linkReset
  else none

/-- The commands that a port's transfer brings, from all the bytes received between the assertion and the deassertion of
CS (R164). A WRITE is worked at its end, on the bytes after its type byte. A READ is worked at its type byte and at its
end, clocked for the bytes after it. A LINK_RESET is worked at its type byte. A transfer of no type, or that ends before a
first byte, is ignored. -/
def transferEvents (p : Port) : List Byte → List Instr
  | [] => []
  | b :: rest =>
    match transferType b with
    | some .write => [.write p rest]
    | some .read => [.read p .typeByte, .read p (.finish rest.length)]
    | some .linkReset => [.linkReset p]
    | none => []

/-- No row of the table has an encoding, so a word spells none. -/
def decodeTableWord (_nbits _w : Nat) : Option Instr := none

end Sys2Proof
end

