-- ==== Sys2Proof/Machine/State.lean ====
section
/-! DEFINITION. The state of the TL48 as plain data, block by block, with the value of every piece right after
the release of a device reset (R174 and the reset tables of each chapter). Tables by site, group, product, id,
slot or interval are sparse lists in one canonical form (log 18). -/

namespace Sys2Proof.Machine

/-- A table by number: keys strictly rising, no entry equal to the value an unlisted key reads as (log 18). -/
abbrev Table (α : Type) := List (Nat × α)

/-! ### Market Time Unit (chapter 1) -/

/-- The five time states (TABLE 1(a)). -/
inductive TimeState
  | unset | acquiring | locked | holdover | failed
  deriving DecidableEq, Repr

/-- The pending calendar of an accepted TIME_SET (R10): a first start, or a restart from FAILED. -/
structure PendingCalendar where
  interval : Nat
  second : Nat
  restart : Bool
  deriving DecidableEq, Repr

/-- The Market Time Unit's items (R18). -/
structure Mtu where
  timeState : TimeState := .unset
  phase : Nat := 0
  runSeconds : Word := 0#32
  clock : Nat := 0
  second : Nat := 0
  goodRun : Nat := 0
  holdover : Nat := 0
  faults : Nat := 0
  calendar : Option PendingCalendar := none
  origin : Nat := 0
  window : Bool := false
  deriving DecidableEq, Repr

/-! ### Products and settings (chapter 2) -/

/-- A product's direction; NONE until it is defined (R20). -/
inductive Direction
  | none | up | down | sym
  deriving DecidableEq, Repr

/-- A product record (TABLE 2(a)); the defaults are its reset values (R20). -/
structure Product where
  direction : Direction := .none
  fullTicks : Nat := 0
  verifyDelay : Nat := 0
  sustain : Nat := 0
  minimum : Nat := 0
  step : Nat := 0
  tolerance : Nat := 0
  enabled : Bool := false
  deriving DecidableEq, Repr

/-- The market settings with their reset values (TABLE 2(c)). -/
structure Settings where
  length : Nat := 900
  lead : Nat := 4
  near : Nat := 1
  margin : Nat := 26
  holdoverLimit : Nat := 300
  deriving DecidableEq, Repr

/-! ### Fleet Registry and Telemetry Intake Unit (chapters 3 and 4) -/

/-- A site's registry fields (TABLE 3(a)); `none` is group NONE. -/
structure SiteReg where
  group : Option Nat := none
  energy : Nat := 0
  discharge : Nat := 0
  charge : Nat := 0
  floor : Nat := 0
  deriving DecidableEq, Repr

/-- A group's registry fields (TABLE 3(b)). -/
structure GroupReg where
  zone : Nat := 0
  curveClass : Nat := 0
  ceiling : Nat := 1000
  deriving DecidableEq, Repr

/-- The Fleet Registry. A curve's key is 2 × class, plus 1 for CHARGE; an unlisted curve reads as sixteen values
of 256 (R36). -/
structure Registry where
  sites : Table SiteReg := []
  groups : Table GroupReg := []
  curves : Table (List Nat) := []
  deriving DecidableEq, Repr

/-- A site's raw telemetry while present (R47). -/
structure RawTelemetry where
  soc : Nat
  online : Bool
  measured : Int
  stamp : Word
  deriving DecidableEq, Repr

/-- A site's rollup result (R57). -/
structure SiteResult where
  fresh : Bool := false
  pUp : Nat := 0
  pDn : Nat := 0
  eUp : Nat := 0
  eDn : Nat := 0
  measured : Int := 0
  member : Option Nat := none
  deriving DecidableEq, Repr

/-- A group's rollup result (R58): the live sums, the measured sum and the fresh count. -/
structure GroupLive where
  pUp : Nat := 0
  pDn : Nat := 0
  eUp : Nat := 0
  eDn : Nat := 0
  measured : Int := 0
  fresh : Nat := 0
  deriving DecidableEq, Repr

/-- The Telemetry Intake Unit (TABLE 4(a)). -/
structure Intake where
  raw : Table (Option RawTelemetry) := []
  sites : Table SiteResult := []
  groups : Table GroupLive := []
  staleLimit : Nat := 30
  rollupPeriod : Nat := 5
  periodCount : Nat := 0
  deriving DecidableEq, Repr

/-! ### Capability Grid (chapter 5) -/

/-- Four figures of upward and downward power and energy: effective capability, limits, loads or spares. -/
structure Quad where
  pUp : Nat := 0
  pDn : Nat := 0
  eUp : Nat := 0
  eDn : Nat := 0
  deriving DecidableEq, Repr

/-- A Grid entry (TABLE 5(a)): forecast and loads. -/
structure GridEntry where
  forecast : Quad := {}
  load : Quad := {}
  deriving DecidableEq, Repr

/-- A kinds mask (R73). -/
structure Kinds where
  pUp : Bool := false
  pDn : Bool := false
  eUp : Bool := false
  eDn : Bool := false
  deriving DecidableEq, Repr

/-- A deficit list entry (R74). -/
structure Deficit where
  group : Nat
  interval : Nat
  kinds : Kinds
  deriving DecidableEq, Repr

/-- The Capability Grid. The entry of group g in slot k has key 64 × k + g (R64). -/
structure Grid where
  ring : Table GridEntry := []
  deficits : List Deficit := []
  overflow : Bool := false
  deriving DecidableEq, Repr

/-! ### Commitment Table (chapter 7) -/

/-- A share of a commitment (TABLE 7(a)). -/
structure Share where
  group : Nat
  power : Nat
  deriving DecidableEq, Repr

/-- A product's fraction-tick accumulator and active-tick counter (R136), or a copy of them. -/
structure Account where
  fractionTicks : Word48 := 0#48
  activeTicks : Word := 0#32
  deriving DecidableEq, Repr

/-- The states of a commitment record (TABLE 7(b)). -/
inductive CommitState
  | held | awarded | settling
  deriving DecidableEq, Repr

/-- Settlement figures (R163). -/
structure Figures where
  energy : Nat
  activeTicks : Word
  deriving DecidableEq, Repr

/-- A commitment record (TABLE 7(a)). Its origin is always the market port (R95) and is not stored. -/
structure Commitment where
  id : Nat
  issue : Byte
  state : CommitState
  product : Nat
  zone : Nat
  first : Nat
  count : Nat
  quantity : Nat
  shares : List Share
  snapshot : Option Account := none
  shortfalls : Nat := 0
  figures : Option Figures := none
  deriving DecidableEq, Repr

/-- A settlement record (TABLE 7(c)). -/
structure Settlement where
  id : Nat
  issue : Byte
  product : Nat
  first : Nat
  count : Nat
  quantity : Nat
  energy : Nat
  activeTicks : Word
  shortfalls : Nat
  deriving DecidableEq, Repr

/-- The Commitment Table: records in ascending id, issue counters by id, products by number, and the settlement
queue, oldest first (R20, R95, R96, R109). -/
structure Commitments where
  records : List Commitment := []
  issues : Table Byte := []
  products : Table Product := []
  queue : List Settlement := []
  deriving DecidableEq, Repr

/-! ### Activation Control Unit (chapter 9) -/

/-- Why an activation is ending (TABLE 9(a)). -/
inductive EndCause
  | deactivate | sustain | intervalEnd
  deriving DecidableEq, Repr

/-- The source of the order that last set a nonzero target (TABLE 9(a)). -/
inductive ActOrigin
  | grid | uft | oft
  deriving DecidableEq, Repr

/-- The state that an activation record's fractions give it (R130). -/
inductive ActState
  | ramping | holding | ending
  deriving DecidableEq, Repr

/-- An activation record (TABLE 9(a)); its state is not stored but follows from the fractions. -/
structure Activation where
  product : Nat
  target : Int
  current : Int
  cause : Option EndCause := none
  sustain : Nat := 0
  origin : ActOrigin
  deriving DecidableEq, Repr

/-- Status codes (TABLE 12(c)). -/
inductive Status
  | ok | malformed | notPermitted | wrongState | range | unknown | inUse | gateClosed
  | short | tableFull | nothingAwarded | disabled
  deriving DecidableEq, Repr

/-- A line's last trip record (R141). -/
structure LastTrip where
  outcome : Status
  product : Nat
  fraction : Int
  runSeconds : Word
  deriving DecidableEq, Repr

/-- A trip line's state (TABLE 9(c)), with the level of its pin. -/
structure LineState where
  armed : Option Nat := none
  asserted : Bool := false
  count : Nat := 0
  latched : Bool := false
  unarmed : Nat := 0
  last : Option LastTrip := none
  deriving DecidableEq, Repr

/-- The Activation Control Unit (TABLE 9(d)). The list is in product order; accounts are by product. -/
structure Acu where
  records : List Activation := []
  accounts : Table Account := []
  uft : LineState := {}
  oft : LineState := {}
  guardTicks : Nat := 10
  qualification : Nat := 2
  deriving DecidableEq, Repr

/-! ### Dispatch Unit (chapter 10) -/

/-- A group's dispatch record (TABLE 10(a)). -/
structure GroupDispatch where
  computed : Int := 0
  published : Int := 0
  previous : Int := 0
  guard : Bool := false
  remaining : Nat := 0
  lastChange : Word := 0#32
  mask : List Nat := []
  short : Bool := false
  deriving DecidableEq, Repr

/-- A site's setpoint and its setpoint sequence (R145). -/
structure Setpoint where
  value : Int := 0
  sequence : Half := 0#16
  deriving DecidableEq, Repr

/-- The Dispatch Unit (TABLE 10(a)). -/
structure DispatchUnit where
  groups : Table GroupDispatch := []
  setpoints : Table Setpoint := []
  sequence : Half := 0#16
  dirty : List Nat := []
  tickCount : Word := 0#32
  deriving DecidableEq, Repr

/-! ### Delivery Verification Unit (chapter 11) -/

/-- A short group found by the verification stage, with the figures of its test (R158, R160). -/
structure Shortfall where
  group : Nat
  published : Int
  measured : Int
  mask : List Nat
  tolerance : Nat
  deriving DecidableEq, Repr

/-- The capture record (TABLE 11(a)). -/
structure Capture where
  clock : Nat
  second : Nat
  phase : Nat
  shortfall : Shortfall
  deriving DecidableEq, Repr

/-- The Delivery Verification Unit (R156); the full flag is that the capture is present. -/
structure Verifier where
  capture : Option Capture := none
  further : Nat := 0
  deriving DecidableEq, Repr

/-! ### Allocation Engine (chapter 6) -/

/-- A port's entry in a FIFO class (R81): the request, its port and slot, and for ADMISSION its abandon count. -/
structure Entry where
  port : Port
  slot : Nat
  tag : Byte
  request : Request
  abandons : Nat := 0
  deriving DecidableEq, Repr

/-- A queued trip event (R83). -/
structure TripEvent where
  line : Line
  product : Nat
  fraction : Int
  deriving DecidableEq, Repr

/-- An entry of the ACTIVATION class. -/
inductive ActEntry
  | order (entry : Entry)
  | trip (event : TripEvent)
  deriving DecidableEq, Repr

/-- A trigger class: its flag and merge count (R84). -/
structure Trigger where
  flag : Bool := false
  merges : Nat := 0
  deriving DecidableEq, Repr

/-- A group considered by an admission job: its headroom and binding interval (R116). -/
structure Headroom where
  group : Nat
  power : Nat
  binding : Nat
  deriving DecidableEq, Repr

/-- Gate status of an interval (R14), with PAST as QUERY_HEADROOM reports it (R124). -/
inductive GateStatus
  | delivery | closed | open | past | outside
  deriving DecidableEq, Repr

/-- The engine's scratch allocation (R88): the outcome of the checks, the groups considered, those selected, the
shares found, and the interval counts of the computing phase. -/
structure Scratch where
  refusal : Option Status
  considered : List Headroom
  selected : List Headroom
  shares : List Share
  clock : Nat
  book : Nat
  gate : GateStatus
  deriving DecidableEq, Repr

/-- A request whose job is running; a link reset of its port makes it an orphan, whose reply is discarded (R92). -/
structure Running where
  entry : Entry
  orphan : Bool
  deriving DecidableEq, Repr

/-- A rollup's snapshot (R55). -/
structure RollupSnapshot where
  runSeconds : Word
  staleLimit : Nat
  raw : Table (Option RawTelemetry)
  registry : Registry
  previousFresh : List Nat
  deriving DecidableEq, Repr

/-- Where a rollup job stands: before its snapshot (stage 1), before stages 2 to 4, before the rescan, before the
verification snapshot, before the verification write, before stage 6 (R51, R55, R61, R62, R157, R160). -/
inductive RollupStage
  | snapshot
  | figures (snapshot : RollupSnapshot)
  | rescan
  | verify
  | write (shorts : List Shortfall)
  | trigger
  deriving DecidableEq, Repr

/-- Where a ROLLOVER job stands (R86, R103): between boundaries, or before a stage of one, with the accounts read
at the start of that boundary. -/
inductive RolloverStage
  | between
  | completion (accounts : Table Account)
  | retirement (accounts : Table Account)
  | expiry (accounts : Table Account)
  | support (accounts : Table Account)
  | intervalEnd (accounts : Table Account) (products : List Nat)
  | snapshots (accounts : Table Account)
  | nearRescan
  | raise
  deriving DecidableEq, Repr

/-- The job in progress (R79), with its working values. A dispatch job holds the fractions and the groups in
GUARD of its start snapshot (R146). -/
inductive Job
  | order (running : Running)
  | trip (event : TripEvent)
  | dispatch (fractions : List (Nat × Int)) (guarded : List Nat)
  | rollover (stage : RolloverStage)
  | rollup (stage : RollupStage)
  | fleet (running : Running)
  | book (running : Running)
  | admission (running : Running)
  deriving DecidableEq, Repr

/-- The copy that READ_STATUS reads, taken at the end of each job (R173). -/
structure StatusCopy where
  book : Nat := 0
  records : Nat := 0
  settlements : Nat := 0
  deficits : Nat := 0
  overflow : Bool := false
  deriving DecidableEq, Repr

/-- The Allocation Engine (TABLE 6(c)). -/
structure Engine where
  job : Option Job := none
  scratch : Option Scratch := none
  activation : List ActEntry := []
  activationMerges : Nat := 0
  dispatch : Trigger := {}
  housekeeping : Trigger := {}
  rollup : Trigger := {}
  fleet : List Entry := []
  book : List Entry := []
  admission : List Entry := []
  abandonTotal : Nat := 0
  bookInterval : Option Nat := none
  settings : Settings := {}
  copy : StatusCopy := {}
  deriving DecidableEq, Repr

/-! ### Port Interface (chapter 12) -/

/-- What an activation order did (section 9.2). -/
inductive OrderResult
  | created | retargeted | ended | unchanged
  deriving DecidableEq, Repr

/-- The report of a product (R27). -/
structure ProductReport where
  product : Nat
  record : Product
  held : Nat
  awarded : Nat
  active : Bool
  uftArmed : Bool
  oftArmed : Bool
  deriving DecidableEq, Repr

/-- One setpoint of a reading reply (R153, R154). -/
structure SetpointRow where
  site : Nat
  setpoint : Setpoint
  dirty : Bool
  deriving DecidableEq, Repr

/-- READ_STATUS's figures (R173). -/
structure StatusReport where
  cause : ResetCause
  timeState : TimeState
  clock : Nat
  second : Nat
  runSeconds : Word
  faults : Nat
  holdover : Nat
  classInProgress : Nat
  dispatchFlag : Bool
  housekeepingFlag : Bool
  rollupFlag : Bool
  activationMerges : Nat
  dispatchMerges : Nat
  housekeepingMerges : Nat
  rollupMerges : Nat
  abandonTotal : Nat
  copy : StatusCopy
  captureFull : Bool
  deriving DecidableEq, Repr

/-- The bodies of replies, each as the rule of its request gives it; `bodyBytes` lays them out (R168). -/
inductive ReplyBody
  | empty
  | settings (s : Settings)
  | product (r : ProductReport)
  | shares (id : Nat) (issue : Byte) (quantity : Nat) (shares : List Share)
  | short (total : Nat) (offerable : Nat) (eligible : Nat)
  | headroom (clock : Nat) (book : Nat) (gate : GateStatus) (groups : Nat) (eligible : Nat)
      (selected : List Headroom) (total : Nat) (offerable : Nat)
  | released (id : Nat) (issue : Byte) (state : CommitState)
  | settlements (records : List Settlement) (queued : Nat) (settling : Nat)
  | commitment (record : Commitment)
  | list (records : List Commitment) (next : Nat)
  | deficits (book : Nat) (count : Nat) (overflow : Bool) (start : Nat) (entries : List Deficit)
  | activation (record : Activation) (result : OrderResult)
  | armed (line : Line) (product : Option Nat)
  | gridSettings (guard : Nat) (qualification : Nat)
  | activations (acu : Acu)
  | capture (unit : Verifier)
  | site (r : SiteReg)
  | groupSet (r : GroupReg) (held : Nat) (awarded : Nat)
  | curve (curveClass : Nat) (charge : Bool) (values : List Nat)
  | telemetry (stored : Nat) (skipped : Nat)
  | forecast (group : Nat) (first : Nat) (kinds : List Kinds) (overflow : Bool)
  | fleetSettings (staleLimit : Nat) (rollupPeriod : Nat)
  | setpointChanges (sequence : Half) (rows : List SetpointRow) (more : Bool)
  | setpoints (sequence : Half) (first : Nat) (rows : List SetpointRow)
  | group (number : Nat) (r : GroupReg) (assigned : Nat) (live : GroupLive) (dispatch : GroupDispatch)
  | status (r : StatusReport)
  | notices (counts : List (Nat × Nat))
  | attention (mask : BitVec 12) (threshold : Nat)
  deriving DecidableEq, Repr

/-- A completed reply (R167): the slot it frees, its request's kind and tag, its status and body. -/
structure Reply where
  slot : Nat
  kind : Byte
  tag : Byte
  status : Status
  body : ReplyBody
  deriving DecidableEq, Repr

/-- The notice kinds, in the order of their codes (TABLE 12(e)). -/
inductive Notice
  | timeState | trip | shortfall | deficit | sustainLimit | dispatchShort | activationEnded
  | setpointsChanged | holdExpired | settlement | staleSites | resetDone
  deriving DecidableEq, Repr

/-- A READ transfer between its type byte and its end (R167): the status byte formed and the reply chosen. -/
structure Reading where
  status : Byte
  reply : Option Reply
  deriving DecidableEq, Repr

/-- What the MISO line carried in the port's last transfer: nothing yet, the bytes of a READ, or don't-care
bytes, about which nothing is said (log 8). -/
inductive Miso
  | idle
  | bytes (bs : List Byte)
  | dontCare
  deriving DecidableEq, Repr

/-- One port's state (12.1 to 12.7). Slots 0..3 hold the frame taken, `none` when free; notice counts are by kind
code. The default values are those of a link reset (R172). -/
structure PortState where
  slots : Table (Option (List Byte)) := []
  replies : List Reply := []
  lastWriteRefused : Bool := false
  notices : Table Nat := []
  mask : BitVec 12 := 0xFFF#12
  threshold : Nat := 0
  reading : Option Reading := none
  miso : Miso := .idle
  deriving DecidableEq, Repr

/-! ### The part -/

/-- Whether the part has power and is out of reset (R174). -/
inductive Supply
  | off | held | running
  deriving DecidableEq, Repr

/-- The TL48: its ten blocks, its reset condition, and the queue of commands that wait. -/
structure State where
  supply : Supply := .running
  cause : ResetCause := .powerOn
  mtu : Mtu := {}
  frg : Registry := {}
  tiu : Intake := {}
  cgr : Grid := {}
  eng : Engine := {}
  cmt : Commitments := {}
  acu : Acu := {}
  dsp : DispatchUnit := {}
  dvu : Verifier := {}
  market : PortState := {}
  grid : PortState := {}
  fleet : PortState := {}
  pending : List Instr := []
  deriving DecidableEq, Repr

/-- A port at the release of a device reset: as after a link reset, with RESET_DONE pending once (R174). -/
def PortState.released : PortState := { notices := [(11, 1)] }

/-- The part right after the release of a power-on reset (R174 and every chapter's reset values; log 1). -/
def State.reset : State :=
  { market := PortState.released, grid := PortState.released, fleet := PortState.released }

/-- No command of the TL48 stops the part: what the spec does not allow is a reply's status code or is ignored.
There is no fault to raise. -/
inductive Fault
  deriving DecidableEq, Repr

/-- Reasons for giving no meaning. -/
inductive Refusal
  /-- Raised by an arm of `exec` whose command has no meaning yet; safe. No arm raises it. -/
  | notModelled (mnemonic : String)
  deriving DecidableEq, Repr

end Sys2Proof.Machine
end

