-- ==== Sys2Proof/Machine/Ops.lean ====
section
/-! DEFINITION. Operations that several blocks share: tables by number, saturation and clamping, the largest
remainder division, the ports' notices and replies, the engine's triggers and abandonment, gate status, the
horizon and the delivery set. -/

namespace Sys2Proof.Machine

/-! ### Tables by number (log 18) -/

/-- The value at key `i`; a key that is not listed reads as `d`. -/
def Table.get {α : Type} (d : α) : Table α → Nat → α
  | [], _ => d
  | (k, v) :: t, i => if k = i then v else Table.get d t i

/-- Puts an entry before the first greater key. -/
def Table.insert {α : Type} (i : Nat) (v : α) : Table α → Table α
  | [] => [(i, v)]
  | (k, w) :: t => if i < k then (i, v) :: (k, w) :: t else (k, w) :: Table.insert i v t

/-- Writes `v` at key `i`; writing the value an unlisted key reads as removes the entry. -/
def Table.set {α : Type} [DecidableEq α] (d : α) (t : Table α) (i : Nat) (v : α) : Table α :=
  let rest := t.filter (fun e => decide (e.1 ≠ i))
  if v = d then rest else Table.insert i v rest

/-- Changes the value at key `i`. -/
def Table.modify {α : Type} [DecidableEq α] (d : α) (t : Table α) (i : Nat) (f : α → α) : Table α :=
  Table.set d t i (f (Table.get d t i))

/-- The table whose value at each key below `n` is `f` of the key. -/
def Table.tabulate {α : Type} [DecidableEq α] (d : α) (n : Nat) (f : Nat → α) : Table α :=
  (List.range n).filterMap (fun i => if f i = d then none else some (i, f i))

/-- The canonical form: keys strictly rising, and no entry at the value unlisted keys read as. -/
def Table.wf {α : Type} [DecidableEq α] (d : α) (t : Table α) : Bool :=
  decide ((t.map (·.1)).Pairwise (· < ·)) && t.all (fun e => decide (e.2 ≠ d))

/-! ### Lists, saturation, clamping -/

/-- Inserts `x` before the first element that does not come before it. -/
def insertBy {α : Type} (before : α → α → Bool) (x : α) : List α → List α
  | [] => [x]
  | y :: t => if before x y then x :: y :: t else y :: insertBy before x t

/-- Sorts a list so that an element that comes `before` another stands earlier. -/
def sortBy {α : Type} (before : α → α → Bool) (l : List α) : List α :=
  l.foldr (insertBy before) []

/-- A count that stays at `cap` (R7, R84, R90, R169). -/
def saturate (cap n : Nat) : Nat := min cap n

/-- An unsigned figure held within `lo..hi` (R28, R37, R52, R142). -/
def clampNat (lo hi n : Nat) : Nat := min hi (max lo n)

/-- A signed figure held within `lo..hi` (R131, R147). -/
def clampInt (lo hi x : Int) : Int := min hi (max lo x)

/-- floor rounded up: ceil(a / b). -/
def ceilDiv (a b : Nat) : Nat := (a + b - 1) / b

/-- Divides `q` among weights that sum to `t` by largest remainder (R119, R127, R150): the floor shares, and one
unit each to the largest remainders, the lower key first between equal ones. Keys keep their order. -/
def largestRemainder (q t : Nat) (weights : List (Nat × Nat)) : List (Nat × Nat) :=
  let rows := weights.map (fun w => (w.1, q * w.2 / t, q * w.2 % t))
  let units := q - (rows.map (fun r => r.2.1)).sum
  let ranked := sortBy (fun a b => decide (a.2.2 > b.2.2 ∨ (a.2.2 = b.2.2 ∧ a.1 < b.1))) rows
  let served := (ranked.take units).map (·.1)
  rows.map (fun r => (r.1, if r.1 ∈ served then r.2.1 + 1 else r.2.1))

/-! ### Ports -/

/-- The state of a port. -/
def State.port (s : State) : Port → PortState
  | .market => s.market
  | .grid => s.grid
  | .fleet => s.fleet

/-- Writes the state of a port. -/
def State.withPort (s : State) (p : Port) (x : PortState) : State :=
  match p with
  | .market => { s with market := x }
  | .grid => { s with grid := x }
  | .fleet => { s with fleet := x }

/-- A notice kind's code (TABLE 12(e)). -/
def Notice.code : Notice → Nat
  | .timeState => 0
  | .trip => 1
  | .shortfall => 2
  | .deficit => 3
  | .sustainLimit => 4
  | .dispatchShort => 5
  | .activationEnded => 6
  | .setpointsChanged => 7
  | .holdExpired => 8
  | .settlement => 9
  | .staleSites => 10
  | .resetDone => 11

/-- The ports a notice kind is routed to (TABLE 12(e)). -/
def Notice.routed : Notice → Port → Bool
  | .timeState, _ => true
  | .trip, p => p != .fleet
  | .shortfall, p => p != .fleet
  | .deficit, p => p != .fleet
  | .sustainLimit, p => p == .grid
  | .dispatchShort, p => p != .market
  | .activationEnded, p => p == .grid
  | .setpointsChanged, p => p == .fleet
  | .holdExpired, p => p == .market
  | .settlement, p => p == .market
  | .staleSites, p => p == .fleet
  | .resetDone, _ => true

/-- Adds 1 to a port's count of a kind, holding it at 255 (R169). -/
def PortState.note (x : PortState) (k : Notice) : PortState :=
  { x with notices := Table.modify 0 x.notices k.code (fun n => saturate 255 (n + 1)) }

/-- Raises a notice kind: 1 more at every port of its route, together (R169). -/
def State.raise (s : State) (k : Notice) : State :=
  { s with
    market := if k.routed .market then s.market.note k else s.market
    grid := if k.routed .grid then s.grid.note k else s.grid
    fleet := if k.routed .fleet then s.fleet.note k else s.fleet }

/-- Raises a notice kind if `b`. -/
def State.raiseIf (s : State) (b : Bool) (k : Notice) : State := if b then s.raise k else s

/-- Raises a notice kind `n` times. -/
def State.raiseTimes (s : State) (k : Notice) : Nat → State
  | 0 => s
  | n + 1 => (s.raise k).raiseTimes k n

/-- A reply joins its port's completed replies (R167). -/
def State.complete (s : State) (p : Port) (r : Reply) : State :=
  s.withPort p { s.port p with replies := (s.port p).replies ++ [r] }

/-! ### The engine's triggers, the ACTIVATION class and abandonment -/

/-- A raise of a trigger: sets a clear flag, or merges into a set one (R84). -/
def Trigger.raised (t : Trigger) : Trigger :=
  if t.flag then { t with merges := saturate 255 (t.merges + 1) } else { t with flag := true }

/-- An arrival that abandons the ADMISSION job in its computing phase while its abandon count is below 3: the
scratch is emptied, the entry goes back to the head with its count increased, unless a link reset has orphaned it,
and the total grows (R89, R90, R92). Any other job goes on. -/
def Engine.abandoned (e : Engine) : Engine :=
  match e.job with
  | some (.admission r) =>
    if r.entry.abandons < Config.immuneAt then
      { e with
        job := none
        scratch := none
        admission :=
          if r.orphan then e.admission
          else { r.entry with abandons := r.entry.abandons + 1 } :: e.admission
        abandonTotal := saturate 65535 (e.abandonTotal + 1) }
    else e
  | _ => e

/-- Raises DISPATCH (R84, R89). -/
def State.raiseDispatch (s : State) : State :=
  { s with eng := { s.eng with dispatch := s.eng.dispatch.raised }.abandoned }

/-- Raises DISPATCH if `b`. -/
def State.raiseDispatchIf (s : State) (b : Bool) : State := if b then s.raiseDispatch else s

/-- Raises HOUSEKEEPING (R84). -/
def State.raiseHousekeeping (s : State) : State :=
  { s with eng := { s.eng with housekeeping := s.eng.housekeeping.raised } }

/-- Raises ROLLUP (R84). -/
def State.raiseRollup (s : State) : State :=
  { s with eng := { s.eng with rollup := s.eng.rollup.raised } }

/-- An entry joins the tail of the ACTIVATION class (R80, R89). -/
def State.joinActivation (s : State) (a : ActEntry) : State :=
  { s with eng := { s.eng with activation := s.eng.activation ++ [a] }.abandoned }

/-! ### Time, horizon and gate -/

/-- Whether a calendar runs: none in UNSET or with a first start pending (R13, TABLE 1(a)). -/
def Mtu.running (m : Mtu) : Bool :=
  match m.timeState with
  | .unset => false
  | .acquiring =>
    match m.calendar with
    | some c => c.restart
    | none => true
  | _ => true

/-- Whether the time state admits commerce: LOCKED or HOLDOVER (R17). -/
def Mtu.commerce (m : Mtu) : Bool := m.timeState == .locked || m.timeState == .holdover

/-- A change of time state, which raises TIME_STATE (R3). -/
def State.enterTimeState (s : State) (t : TimeState) : State :=
  { s with mtu := { s.mtu with timeState := t } }.raise .timeState

/-- Whether interval `i` lies in the horizon b..b+95 (R15). -/
def Engine.inHorizon (e : Engine) (i : Nat) : Bool :=
  match e.bookInterval with
  | some b => decide (b ≤ i ∧ i < b + Config.horizon)
  | none => false

/-- Gate status of interval `i` against the clock interval of the moment (R14). -/
def State.gateStatus (s : State) (i : Nat) : GateStatus :=
  match s.eng.bookInterval with
  | none => .outside
  | some b =>
    if i < s.mtu.clock then .past
    else if i = s.mtu.clock then .delivery
    else if i ≤ s.mtu.clock + s.eng.settings.lead then .closed
    else if i ≤ b + 95 then .open
    else .outside

/-- The last interval of a commitment (TABLE 7(a)). -/
def Commitment.last (r : Commitment) : Nat := r.first + r.count - 1

/-- Whether a commitment's range covers interval `i` (R67). -/
def Commitment.covers (r : Commitment) (i : Nat) : Bool := decide (r.first ≤ i ∧ i ≤ r.last)

/-- The delivery set: the AWARDED records whose range covers b (R98). -/
def State.deliverySet (s : State) : List Commitment :=
  match s.eng.bookInterval with
  | none => []
  | some b => s.cmt.records.filter (fun r => r.state == .awarded && r.covers b)

/-- The share of a commitment in a group, 0 when it has none. -/
def Commitment.shareIn (r : Commitment) (g : Nat) : Nat :=
  match r.shares.find? (fun x => x.group == g) with
  | some x => x.power
  | none => 0

/-- Whether a commitment has a share in a group. -/
def Commitment.hasShare (r : Commitment) (g : Nat) : Bool := r.shares.any (fun x => x.group == g)

/-! ### Tables of the blocks, with their reset values -/

/-- A product record (R20). -/
def State.product (s : State) (p : Nat) : Product := Table.get {} s.cmt.products p

/-- A group's registry fields (R35). -/
def Registry.group (r : Registry) (g : Nat) : GroupReg := Table.get {} r.groups g

/-- A site's registry fields (R33). -/
def Registry.site (r : Registry) (i : Nat) : SiteReg := Table.get {} r.sites i

/-- The reset curve: sixteen values of 256 (R36). -/
def flatCurve : List Nat := List.replicate 16 256

/-- The key of a curve: 2 × class, plus 1 for CHARGE. -/
def curveKey (curveClass : Nat) (charge : Bool) : Nat := 2 * curveClass + (if charge then 1 else 0)

/-- A derating curve (R36). -/
def Registry.curve (r : Registry) (curveClass : Nat) (charge : Bool) : List Nat :=
  Table.get flatCurve r.curves (curveKey curveClass charge)

/-- A group's live figures (R58). -/
def Intake.group (t : Intake) (g : Nat) : GroupLive := Table.get {} t.groups g

/-- A site's rollup result (R57). -/
def Intake.site (t : Intake) (i : Nat) : SiteResult := Table.get {} t.sites i

/-- A group's dispatch record (R145). -/
def DispatchUnit.group (d : DispatchUnit) (g : Nat) : GroupDispatch := Table.get {} d.groups g

/-- A site's setpoint (R145). -/
def DispatchUnit.setpoint (d : DispatchUnit) (i : Nat) : Setpoint := Table.get {} d.setpoints i

/-- A product's accumulator and counter (R136). -/
def accountOf (t : Table Account) (p : Nat) : Account := Table.get {} t p

/-- The activation record of a product, if any (R130). -/
def Acu.record (a : Acu) (p : Nat) : Option Activation := a.records.find? (fun r => r.product == p)

/-- The record held by an id, if any (R95). -/
def Commitments.record (c : Commitments) (i : Nat) : Option Commitment := c.records.find? (fun r => r.id == i)

/-- A trip line's state. -/
def Acu.line (a : Acu) : Line → LineState
  | .uft => a.uft
  | .oft => a.oft

/-- Writes a trip line's state. -/
def Acu.withLine (a : Acu) (l : Line) (x : LineState) : Acu :=
  match l with
  | .uft => { a with uft := x }
  | .oft => { a with oft := x }

/-- Whether a direction fits a trip line (R139): UFT takes UP and SYM, OFT takes DOWN and SYM. -/
def Direction.fits : Direction → Line → Bool
  | .up, .uft => true
  | .down, .oft => true
  | .sym, _ => true
  | _, _ => false

end Sys2Proof.Machine
end

