-- ==== Sys2Proof/Machine/Operands.lean ====
section
/-! DEFINITION. Request frames and reply frames (12.1, 12.2, 12.4): the codes and bodies of TABLE 12(b), the check of a
frame in R166's order, and the layout of every reply body by R168. -/

namespace Sys2Proof.Machine

/-! ### Little-endian fields (R168) -/

/-- Two bytes as a field, the first the least significant. -/
def half (a b : Byte) : Half := b ++ a

/-- Four bytes as a field, the first the least significant. -/
def word (a b c d : Byte) : Word := d ++ (c ++ (b ++ a))

/-- A two-byte field's bytes. -/
def halfBytes (x : Half) : List Byte := [x.extractLsb' 0 8, x.extractLsb' 8 8]

/-- A four-byte field's bytes. -/
def wordBytes (x : Word) : List Byte :=
  [x.extractLsb' 0 8, x.extractLsb' 8 8, x.extractLsb' 16 8, x.extractLsb' 24 8]

/-- A number in `w` bytes, the first the least significant. -/
def natBytes : Nat → Nat → List Byte
  | 0, _ => []
  | w + 1, n => BitVec.ofNat 8 n :: natBytes w (n / 256)

/-- A signed number in `w` bytes, two's complement. -/
def intBytes (w : Nat) (x : Int) : List Byte := natBytes w (x % ((256 : Int) ^ w)).toNat

/-- A flag's byte: 1 when set (log 9). -/
def flagByte (b : Bool) : Byte := if b then 1#8 else 0#8

/-! ### Kinds (TABLE 12(b)) -/

/-- A request's kind code. -/
def requestCode : Request → Byte
  | .timeSet .. => 0x01#8
  | .configureMarket _ => 0x02#8
  | .productSet _ => 0x03#8
  | .hold _ => 0x04#8
  | .award _ => 0x05#8
  | .release _ => 0x06#8
  | .queryHeadroom _ => 0x07#8
  | .readSettlement => 0x08#8
  | .productRead _ => 0x10#8
  | .readCommitment _ => 0x11#8
  | .listCommitments _ => 0x12#8
  | .readDeficits _ => 0x13#8
  | .activate _ => 0x20#8
  | .deactivate _ => 0x21#8
  | .armTrip .. => 0x22#8
  | .configureGrid .. => 0x23#8
  | .readActivations => 0x24#8
  | .readCapture => 0x25#8
  | .clearCapture => 0x26#8
  | .siteSet _ => 0x30#8
  | .groupSet _ => 0x31#8
  | .curveSet _ => 0x32#8
  | .telemetry _ => 0x33#8
  | .forecast _ => 0x34#8
  | .configureFleet .. => 0x35#8
  | .setpointChanges => 0x36#8
  | .readSetpoints .. => 0x37#8
  | .readGroup _ => 0x38#8
  | .readStatus => 0x40#8
  | .readNotices => 0x41#8
  | .setAttention .. => 0x42#8

/-- The ports a kind code is permitted on; `none` when it is no code of TABLE 12(b). -/
def kindPorts (k : Byte) : Option (List Port) :=
  let n := k.toNat
  if 0x01 ≤ n ∧ n ≤ 0x08 then some [.market]
  else if 0x10 ≤ n ∧ n ≤ 0x13 then some [.market, .grid]
  else if n = 0x24 then some [.market, .grid]
  else if 0x20 ≤ n ∧ n ≤ 0x26 then some [.grid]
  else if n = 0x38 then some [.grid, .fleet]
  else if 0x30 ≤ n ∧ n ≤ 0x37 then some [.fleet]
  else if 0x40 ≤ n ∧ n ≤ 0x42 then some [.market, .grid, .fleet]
  else none

/-- Whether a request's kind is permitted on a port. -/
def permitted (p : Port) (r : Request) : Bool := ((kindPorts (requestCode r)).getD []).contains p

/-! ### Request bodies -/

def reportBytes (r : Report) : List Byte :=
  halfBytes r.site ++ halfBytes r.soc ++ [r.status] ++ halfBytes r.measured

def forecastBytes (e : ForecastArgs) : List Byte :=
  halfBytes e.pUp ++ halfBytes e.pDn ++ halfBytes e.eUp ++ halfBytes e.eDn

/-- A request's body (TABLE 12(b), 12(d)). -/
def requestBody : Request → List Byte
  | .timeSet n s => wordBytes n ++ halfBytes s
  | .configureMarket a => halfBytes a.length ++ [a.lead, a.near, a.margin] ++ halfBytes a.holdover
  | .productSet a => [a.product, a.direction] ++ halfBytes a.fullTicks ++ halfBytes a.verifyDelay ++ [a.sustain]
      ++ halfBytes a.minimum ++ halfBytes a.step ++ halfBytes a.tolerance ++ [a.enabled]
  | .hold a => [a.product, a.zone] ++ wordBytes a.first ++ [a.count] ++ halfBytes a.quantity
  | .award a => halfBytes a.id ++ [a.issue] ++ halfBytes a.quantity
  | .release a => halfBytes a.id ++ [a.issue]
  | .queryHeadroom a => [a.product, a.zone] ++ wordBytes a.first ++ [a.count]
  | .readSettlement => []
  | .productRead p => [p]
  | .readCommitment i => halfBytes i
  | .listCommitments a => [a.filter] ++ halfBytes a.start
  | .readDeficits p => [p]
  | .activate a => [a.product] ++ halfBytes a.fraction
  | .deactivate p => [p]
  | .armTrip l p => [l, p]
  | .configureGrid g q => [g, q]
  | .readActivations => []
  | .readCapture => []
  | .clearCapture => []
  | .siteSet a => halfBytes a.site ++ [a.group] ++ halfBytes a.energy ++ halfBytes a.discharge ++ halfBytes a.charge
      ++ halfBytes a.floor
  | .groupSet a => [a.group, a.zone, a.curveClass] ++ halfBytes a.ceiling
  | .curveSet a => [a.curveClass, a.direction] ++ a.values.flatMap halfBytes
  | .telemetry rs => BitVec.ofNat 8 rs.length :: rs.flatMap reportBytes
  | .forecast a => a.group :: wordBytes a.first ++ BitVec.ofNat 8 a.entries.length :: a.entries.flatMap forecastBytes
  | .configureFleet l p => halfBytes l ++ halfBytes p
  | .setpointChanges => []
  | .readSetpoints f n => halfBytes f ++ [n]
  | .readGroup g => [g]
  | .readStatus => []
  | .readNotices => []
  | .setAttention m t => halfBytes m ++ [t]

/-- A request frame: body length, kind, tag, body (TABLE 12(a) note 1). -/
def requestFrame (tag : Byte) (r : Request) : List Byte :=
  natBytes 2 (requestBody r).length ++ [requestCode r, tag] ++ requestBody r

/-- Pairs of bytes as fields. -/
def parseHalves : List Byte → Option (List Half)
  | [] => some []
  | a :: b :: t => (parseHalves t).map (fun l => half a b :: l)
  | [_] => none

/-- Seven-byte telemetry reports. -/
def parseReports : List Byte → Option (List Report)
  | [] => some []
  | a :: b :: c :: d :: e :: f :: g :: t => (parseReports t).map (fun l => ⟨half a b, half c d, e, half f g⟩ :: l)
  | _ => none

/-- Eight-byte forecast entries. -/
def parseForecasts : List Byte → Option (List ForecastArgs)
  | [] => some []
  | a :: b :: c :: d :: e :: f :: g :: h :: t =>
    (parseForecasts t).map (fun l => ⟨half a b, half c d, half e f, half g h⟩ :: l)
  | _ => none

/-- A TELEMETRY body: 1..32 reports, as many as its count says (R48, R166). -/
def parseTelemetry : List Byte → Option Request
  | n :: t =>
    match parseReports t with
    | some rs => if rs.length = n.toNat ∧ 1 ≤ n.toNat ∧ n.toNat ≤ 32 then some (.telemetry rs) else none
    | none => none
  | [] => none

/-- A FORECAST body: 1..16 entries, as many as its sixth byte says (R69, R166). -/
def parseForecast : List Byte → Option Request
  | g :: a :: b :: c :: d :: n :: t =>
    match parseForecasts t with
    | some es => if es.length = n.toNat ∧ 1 ≤ n.toNat ∧ n.toNat ≤ 16 then some (.forecast ⟨g, word a b c d, es⟩) else none
    | none => none
  | _ => none

/-- A CURVE_SET body: class, direction and sixteen values. -/
def parseCurve : List Byte → Option Request
  | k :: d :: t =>
    match parseHalves t with
    | some vs => if vs.length = 16 then some (.curveSet ⟨k, d, vs⟩) else none
    | none => none
  | _ => none

/-- The request a kind and body spell; `none` when the body length is not that of the kind (R166 item 4). -/
def parseBody (kind : Byte) (body : List Byte) : Option Request :=
  match kind.toNat, body with
  | 0x01, [a, b, c, d, e, f] => some (.timeSet (word a b c d) (half e f))
  | 0x02, [a, b, c, d, e, f, g] => some (.configureMarket ⟨half a b, c, d, e, half f g⟩)
  | 0x03, [p, d, a, b, c, e, s, f, g, h, i, j, k, n] =>
    some (.productSet ⟨p, d, half a b, half c e, s, half f g, half h i, half j k, n⟩)
  | 0x04, [p, z, a, b, c, d, n, e, f] => some (.hold ⟨p, z, word a b c d, n, half e f⟩)
  | 0x05, [a, b, i, c, d] => some (.award ⟨half a b, i, half c d⟩)
  | 0x06, [a, b, i] => some (.release ⟨half a b, i⟩)
  | 0x07, [p, z, a, b, c, d, n] => some (.queryHeadroom ⟨p, z, word a b c d, n⟩)
  | 0x08, [] => some .readSettlement
  | 0x10, [p] => some (.productRead p)
  | 0x11, [a, b] => some (.readCommitment (half a b))
  | 0x12, [f, a, b] => some (.listCommitments ⟨f, half a b⟩)
  | 0x13, [p] => some (.readDeficits p)
  | 0x20, [p, a, b] => some (.activate ⟨p, half a b⟩)
  | 0x21, [p] => some (.deactivate p)
  | 0x22, [l, p] => some (.armTrip l p)
  | 0x23, [g, q] => some (.configureGrid g q)
  | 0x24, [] => some .readActivations
  | 0x25, [] => some .readCapture
  | 0x26, [] => some .clearCapture
  | 0x30, [a, b, g, c, d, e, f, h, i, j, k] => some (.siteSet ⟨half a b, g, half c d, half e f, half h i, half j k⟩)
  | 0x31, [g, z, k, a, b] => some (.groupSet ⟨g, z, k, half a b⟩)
  | 0x32, t => parseCurve t
  | 0x33, t => parseTelemetry t
  | 0x34, t => parseForecast t
  | 0x35, [a, b, c, d] => some (.configureFleet (half a b) (half c d))
  | 0x36, [] => some .setpointChanges
  | 0x37, [a, b, n] => some (.readSetpoints (half a b) n)
  | 0x38, [g] => some (.readGroup g)
  | 0x40, [] => some .readStatus
  | 0x41, [] => some .readNotices
  | 0x42, [a, b, t] => some (.setAttention (half a b) t)
  | _, _ => none

/-- The outcome of a frame's check (R166): a request with its tag, or a refusal with the kind and tag its reply
carries. -/
inductive FrameCheck
  | accepted (tag : Byte) (request : Request)
  | refused (kind : Byte) (tag : Byte) (status : Status)
  deriving DecidableEq, Repr

/-- The check of the bytes that follow a WRITE's type byte, in R166's order. -/
def checkFrame (p : Port) : List Byte → FrameCheck
  | a :: b :: kind :: tag :: body =>
    let n := (half a b).toNat
    if n > Config.maxBody ∨ body.length ≠ n then .refused kind tag .malformed
    else
      match kindPorts kind with
      | none => .refused kind tag .malformed
      | some ports =>
        if !ports.contains p then .refused kind tag .notPermitted
        else
          match parseBody kind body with
          | some r => .accepted tag r
          | none => .refused kind tag .malformed
  | _ => .refused 0#8 0#8 .malformed

/-! ### Codes in replies -/

/-- A status code (TABLE 12(c)). -/
def Status.code : Status → Byte
  | .ok => 0#8
  | .malformed => 1#8
  | .notPermitted => 2#8
  | .wrongState => 3#8
  | .range => 4#8
  | .unknown => 5#8
  | .inUse => 6#8
  | .gateClosed => 7#8
  | .short => 8#8
  | .tableFull => 9#8
  | .nothingAwarded => 10#8
  | .disabled => 11#8

/-- A time state's code (R173). -/
def TimeState.code : TimeState → Byte
  | .unset => 0#8
  | .acquiring => 1#8
  | .locked => 2#8
  | .holdover => 3#8
  | .failed => 4#8

/-- A direction's code (TABLE 12(d)). -/
def Direction.code : Direction → Byte
  | .none => 0#8
  | .up => 1#8
  | .down => 2#8
  | .sym => 3#8

/-- A commitment state's code (TABLE 12(d)). -/
def CommitState.code : CommitState → Byte
  | .held => 1#8
  | .awarded => 2#8
  | .settling => 3#8

/-- A trip line's code (TABLE 12(d) note 2). -/
def lineByte : Line → Byte
  | .uft => 0#8
  | .oft => 1#8

/-- A product or group in one byte, 255 for NONE. -/
def noneOr : Option Nat → Byte
  | some n => BitVec.ofNat 8 n
  | none => Config.noneCode

/-- The reset cause's code (R173). -/
def causeByte : ResetCause → Byte
  | .powerOn => 0#8
  | .pin => 1#8

/-- A product mask: bit k for product k (R168). -/
def maskByte (m : List Nat) : Byte := BitVec.ofNat 8 (((List.range 8).filter (· ∈ m)).map (2 ^ ·)).sum

/-- The byte of an activation's state: a free value (log 6). -/
def actStateByte : ActState → Byte
  | .ramping => Config.codeByte .ramping
  | .holding => Config.codeByte .holding
  | .ending => Config.codeByte .ending

/-- The byte of an end cause: a free value (log 6). -/
def endCauseByte : EndCause → Byte
  | .deactivate => Config.codeByte .endedByDeactivate
  | .sustain => Config.codeByte .endedBySustain
  | .intervalEnd => Config.codeByte .endedByInterval

/-- The byte of an activation's origin: a free value (log 6). -/
def originByte : ActOrigin → Byte
  | .grid => Config.codeByte .fromGrid
  | .uft => Config.codeByte .fromUft
  | .oft => Config.codeByte .fromOft

/-- The byte of an order's result: a free value (log 6). -/
def resultByte : OrderResult → Byte
  | .created => Config.codeByte .orderCreated
  | .retargeted => Config.codeByte .orderRetargeted
  | .ended => Config.codeByte .orderEnded
  | .unchanged => Config.codeByte .orderUnchanged

/-- The byte of a gate status: a free value (log 6). R124 names no status outside the horizon. -/
def gateByte : GateStatus → Byte
  | .delivery => Config.codeByte .gateDelivery
  | .closed => Config.codeByte .gateClosed
  | .open => Config.codeByte .gateOpen
  | .past | .outside => Config.codeByte .gatePast

/-- The byte of a guard state: a free value (log 6). -/
def guardByte (b : Bool) : Byte := if b then Config.codeByte .guardRunning else Config.codeByte .guardNormal

/-- The byte of a kinds mask: a free value (log 7). -/
def kindsMask (k : Kinds) : Byte := Config.kindsByte k.pUp k.pDn k.eUp k.eDn

/-! ### Reply bodies (R168) -/

/-- The state that a record's fractions give it (R130). -/
def Activation.state (r : Activation) : ActState :=
  if r.target = 0 then .ending else if r.current = r.target then .holding else .ramping

def settingsBytes (s : Settings) : List Byte :=
  natBytes 2 s.length ++ natBytes 1 s.lead ++ natBytes 1 s.near ++ natBytes 1 s.margin ++ natBytes 2 s.holdoverLimit

def productBytes (p : Product) : List Byte :=
  [p.direction.code] ++ natBytes 2 p.fullTicks ++ natBytes 2 p.verifyDelay ++ natBytes 1 p.sustain
    ++ natBytes 2 p.minimum ++ natBytes 2 p.step ++ natBytes 2 p.tolerance ++ [flagByte p.enabled]

def shareBytes (x : Share) : List Byte := natBytes 1 x.group ++ natBytes 2 x.power

def sharesBytes (l : List Share) : List Byte := natBytes 1 l.length ++ l.flatMap shareBytes

/-- A commitment summary (TABLE 12(d)). -/
def summaryBytes (r : Commitment) : List Byte :=
  natBytes 2 r.id ++ [r.issue, r.state.code] ++ natBytes 1 r.product ++ natBytes 1 r.zone ++ natBytes 4 r.first
    ++ natBytes 1 r.count ++ natBytes 2 r.quantity

/-- An account, 6 and 4 bytes. -/
def accountBytes (x : Account) : List Byte := natBytes 6 x.fractionTicks.toNat ++ natBytes 4 x.activeTicks.toNat

/-- A commitment record (TABLE 12(d)); its origin is 0, the market port. -/
def commitmentBytes (r : Commitment) : List Byte :=
  summaryBytes r ++ sharesBytes r.shares ++ [0#8]
    ++ (match r.snapshot with
        | some x => [1#8] ++ accountBytes x
        | none => [0#8] ++ natBytes 10 0)
    ++ natBytes 2 r.shortfalls
    ++ (match r.figures with
        | some f => [1#8] ++ natBytes 2 f.energy ++ natBytes 4 f.activeTicks.toNat
        | none => [0#8] ++ natBytes 6 0)

/-- A settlement record (TABLE 12(d)). -/
def settlementBytes (r : Settlement) : List Byte :=
  natBytes 2 r.id ++ [r.issue] ++ natBytes 1 r.product ++ natBytes 4 r.first ++ natBytes 1 r.count
    ++ natBytes 2 r.quantity ++ natBytes 2 r.energy ++ natBytes 4 r.activeTicks.toNat ++ natBytes 2 r.shortfalls

def deficitBytes (d : Deficit) : List Byte := natBytes 1 d.group ++ natBytes 4 d.interval ++ [kindsMask d.kinds]

def headroomBytes (h : Headroom) : List Byte := natBytes 1 h.group ++ natBytes 2 h.power ++ natBytes 4 h.binding

/-- Fractions, state and end cause of a record, as orders and READ_ACTIVATIONS report them (9.2, R143). -/
def activationBytes (r : Activation) : List Byte :=
  natBytes 1 r.product ++ intBytes 2 r.target ++ intBytes 2 r.current ++ [actStateByte r.state]
    ++ (match r.cause with
        | some c => [1#8, endCauseByte c]
        | none => [0#8, 0#8])

/-- A line as READ_ACTIVATIONS reports it (R143). -/
def lineBytes (x : LineState) : List Byte :=
  [noneOr x.armed, flagByte x.asserted] ++ natBytes 1 x.count ++ [flagByte x.latched] ++ natBytes 1 x.unarmed
    ++ (match x.last with
        | some t => [1#8, t.outcome.code] ++ natBytes 1 t.product ++ intBytes 2 t.fraction ++ natBytes 4 t.runSeconds.toNat
        | none => [0#8] ++ natBytes 8 0)

/-- READ_ACTIVATIONS' body (R143). The list of records is preceded by its count. DEDUCED (log 9): the eight product accounts
and the two trip lines are fixed in number and are laid out as fields, with no count byte. -/
def acuBytes (a : Acu) : List Byte :=
  natBytes 1 a.records.length
    ++ a.records.flatMap (fun r => activationBytes r ++ natBytes 4 r.sustain ++ [originByte r.origin])
    ++ (List.range Config.numProducts).flatMap (fun p => accountBytes (accountOf a.accounts p))
    ++ lineBytes a.uft ++ lineBytes a.oft ++ natBytes 1 a.guardTicks ++ natBytes 1 a.qualification

/-- The body of READ_CAPTURE and CLEAR_CAPTURE: the full flag, the record or its absence, the count (R161). -/
def captureBytes (v : Verifier) : List Byte :=
  [flagByte v.capture.isSome]
    ++ (match v.capture with
        | some c => [1#8] ++ natBytes 4 c.clock ++ natBytes 2 c.second ++ natBytes 1 c.phase
            ++ natBytes 1 c.shortfall.group ++ intBytes 2 c.shortfall.published ++ intBytes 4 c.shortfall.measured
            ++ [maskByte c.shortfall.mask] ++ natBytes 2 c.shortfall.tolerance
        | none => [0#8] ++ natBytes 17 0)
    ++ natBytes 2 v.further

def siteBytes (r : SiteReg) : List Byte :=
  [noneOr r.group] ++ natBytes 2 r.energy ++ natBytes 2 r.discharge ++ natBytes 2 r.charge ++ natBytes 2 r.floor

def groupRegBytes (r : GroupReg) : List Byte := natBytes 1 r.zone ++ natBytes 1 r.curveClass ++ natBytes 2 r.ceiling

def setpointBytes (x : Setpoint) : List Byte := intBytes 2 x.value ++ natBytes 2 x.sequence.toNat

/-- READ_STATUS's body (R173). -/
def statusBytes (r : StatusReport) : List Byte :=
  [causeByte r.cause, r.timeState.code] ++ natBytes 4 r.clock ++ natBytes 2 r.second ++ natBytes 4 r.runSeconds.toNat
    ++ natBytes 4 r.copy.book ++ natBytes 1 r.faults ++ natBytes 2 r.holdover ++ natBytes 1 r.classInProgress
    ++ natBytes 1 ((if r.dispatchFlag then 1 else 0) + (if r.housekeepingFlag then 2 else 0)
        + (if r.rollupFlag then 4 else 0))
    ++ natBytes 1 r.activationMerges ++ natBytes 1 r.dispatchMerges ++ natBytes 1 r.housekeepingMerges
    ++ natBytes 1 r.rollupMerges ++ natBytes 2 r.abandonTotal ++ natBytes 2 r.copy.records
    ++ natBytes 1 r.copy.settlements ++ natBytes 1 r.copy.deficits ++ [flagByte r.copy.overflow, flagByte r.captureFull]

/-- The bytes of a reply body: the fields in the order in which the rule of its request names them (R168, log 9).
DEDUCED (log 9): the product report's two line flags and a curve's sixteen values are fixed in number and have no count
byte. -/
def bodyBytes : ReplyBody → List Byte
  | .empty => []
  | .settings s => settingsBytes s
  | .product r => natBytes 1 r.product ++ productBytes r.record ++ natBytes 2 r.held ++ natBytes 2 r.awarded
      ++ [flagByte r.active, flagByte r.uftArmed, flagByte r.oftArmed]
  | .shares i n q l => natBytes 2 i ++ [n] ++ natBytes 2 q ++ sharesBytes l
  | .short t o e => natBytes 2 t ++ natBytes 2 o ++ natBytes 1 e
  | .headroom c b g n e l t o => natBytes 4 c ++ natBytes 4 b ++ [gateByte g] ++ natBytes 1 n ++ natBytes 1 e
      ++ natBytes 1 l.length ++ l.flatMap headroomBytes ++ natBytes 4 t ++ natBytes 2 o
  | .released i n st => natBytes 2 i ++ [n, st.code]
  | .settlements l q w => natBytes 1 l.length ++ l.flatMap settlementBytes ++ natBytes 1 q ++ natBytes 2 w
  | .commitment r => commitmentBytes r
  | .list l n => natBytes 1 l.length ++ l.flatMap summaryBytes ++ natBytes 2 n
  | .deficits b n o p l => natBytes 4 b ++ natBytes 1 n ++ [flagByte o] ++ natBytes 1 p ++ natBytes 1 l.length
      ++ l.flatMap deficitBytes
  | .activation r o => activationBytes r ++ [resultByte o]
  | .armed l p => [lineByte l, noneOr p]
  | .gridSettings g q => natBytes 1 g ++ natBytes 1 q
  | .activations a => acuBytes a
  | .capture v => captureBytes v
  | .site r => siteBytes r
  | .groupSet r h a => groupRegBytes r ++ natBytes 2 h ++ natBytes 2 a
  | .curve k c v => natBytes 1 k ++ [flagByte c] ++ v.flatMap (natBytes 2)
  | .telemetry s k => natBytes 1 s ++ natBytes 1 k
  | .forecast g i k o => natBytes 1 g ++ natBytes 4 i ++ natBytes 1 k.length ++ k.map kindsMask ++ [flagByte o]
  | .fleetSettings l p => natBytes 2 l ++ natBytes 1 p
  | .setpointChanges q l m => natBytes 2 q.toNat ++ natBytes 1 l.length
      ++ l.flatMap (fun x => natBytes 2 x.site ++ setpointBytes x.setpoint) ++ [flagByte m]
  | .setpoints q f l => natBytes 2 q.toNat ++ natBytes 2 f ++ natBytes 1 l.length
      ++ l.flatMap (fun x => setpointBytes x.setpoint ++ [flagByte x.dirty])
  | .group n r a l d => natBytes 1 n ++ groupRegBytes r ++ natBytes 2 a ++ natBytes 2 l.pUp ++ natBytes 2 l.pDn
      ++ natBytes 2 l.eUp ++ natBytes 2 l.eDn ++ intBytes 4 l.measured ++ natBytes 2 l.fresh ++ intBytes 2 d.published
      ++ intBytes 2 d.computed ++ [flagByte d.short, maskByte d.mask, guardByte d.guard] ++ natBytes 1 d.remaining
  | .status r => statusBytes r
  | .notices l => natBytes 1 l.length ++ l.flatMap (fun x => natBytes 1 x.1 ++ natBytes 1 x.2)
  | .attention m t => natBytes 2 m.toNat ++ natBytes 1 t

/-- A reply frame: body length, kind, tag, status, body (TABLE 12(a) note 1). -/
def replyFrame (r : Reply) : List Byte :=
  natBytes 2 (bodyBytes r.body).length ++ [r.kind, r.tag, r.status.code] ++ bodyBytes r.body

end Sys2Proof.Machine
end

