-- ==== Sys2Proof/Machine/CapabilityGrid.lean ====
section
/-! DEFINITION. The Capability Grid (chapter 5): the ring, loads, effective capability, limits, the deficit test
and the rescans of the deficit list. -/

namespace Sys2Proof.Machine

/-! ### The ring -/

/-- The key of group `g`'s entry for interval `i`: slot i mod 96 (R64). -/
def ringKey (g i : Nat) : Nat := 64 * (i % Config.horizon) + g

/-- The Grid entry of a pair (R64). -/
def Grid.entry (c : Grid) (g i : Nat) : GridEntry := Table.get {} c.ring (ringKey g i)

/-- Changes the Grid entry of a pair. -/
def Grid.modify (c : Grid) (g i : Nat) (f : GridEntry → GridEntry) : Grid :=
  { c with ring := Table.modify {} c.ring (ringKey g i) f }

/-- Zeroes every entry of interval `b`'s slot and removes its deficit entries (R66). -/
def Grid.retire (c : Grid) (b : Nat) : Grid :=
  { c with
    ring := c.ring.filter (fun e => decide (e.1 / 64 ≠ b % Config.horizon))
    deficits := c.deficits.filter (fun d => decide (d.interval ≠ b)) }

/-! ### Loads (5.2) -/

def Quad.add (a b : Quad) : Quad := ⟨a.pUp + b.pUp, a.pDn + b.pDn, a.eUp + b.eUp, a.eDn + b.eDn⟩

def Quad.sub (a b : Quad) : Quad := ⟨a.pUp - b.pUp, a.pDn - b.pDn, a.eUp - b.eUp, a.eDn - b.eDn⟩

/-- What a share adds to the loads of each interval it covers (TABLE 5(b), R67). -/
def contribution (p : Product) (share : Nat) : Quad :=
  let e := ceilDiv (share * p.sustain) 60
  match p.direction with
  | .none => {}
  | .up => { pUp := share, eUp := e }
  | .down => { pDn := share, eDn := e }
  | .sym => { pUp := share, pDn := share, eUp := e, eDn := e }

/-- The intervals first..first+count-1 that lie in the horizon. -/
def State.rangeInHorizon (s : State) (first count : Nat) : List Nat :=
  (List.range' first count).filter s.eng.inHorizon

/-- The pairs of interval and group that shares load, in list order (R68, TABLE 5(d)). -/
def State.sharePairs (s : State) (first count : Nat) (shares : List Share) : List (Nat × Nat) :=
  (s.rangeInHorizon first count).flatMap (fun i => shares.map (fun x => (i, x.group)))

/-- Changes the loads of every interval of a range in the horizon by each share's figure, added or subtracted. -/
def State.changeLoads (s : State) (first count : Nat) (shares : List Share) (figure : Share → Quad)
    (op : Quad → Quad → Quad) : State :=
  let pairs := (s.rangeInHorizon first count).flatMap (fun i => shares.map (fun x => (i, x)))
  { s with cgr := pairs.foldl (fun c e =>
      c.modify e.2.group e.1 (fun x => { x with load := op x.load (figure e.2) })) s.cgr }

/-- Adds the contributions of a new record's shares (R121). -/
def State.addLoads (s : State) (r : Commitment) : State :=
  s.changeLoads r.first r.count r.shares (fun x => contribution (s.product r.product) x.power) Quad.add

/-- Subtracts every contribution of a record (R67, R99, R106, R126). -/
def State.subtractLoads (s : State) (r : Commitment) : State :=
  s.changeLoads r.first r.count r.shares (fun x => contribution (s.product r.product) x.power) Quad.sub

/-! ### Effective capability and limits (5.3) -/

/-- Effective capability of a pair (R71): within the near window the lesser of forecast and live capability. -/
def State.effective (s : State) (g i : Nat) : Quad :=
  let f := (s.cgr.entry g i).forecast
  let l := s.tiu.group g
  match s.eng.bookInterval with
  | none => f
  | some b =>
    if b ≤ i ∧ i ≤ b + s.eng.settings.near then
      ⟨min f.pUp l.pUp, min f.pDn l.pDn, min f.eUp l.eUp, min f.eDn l.eDn⟩
    else f

/-- A capability figure reduced by the margin (R72). -/
def underMargin (margin x : Nat) : Nat := x * (256 - margin) / 256

/-- The four limits of a pair (R72). -/
def State.limits (s : State) (g i : Nat) : Quad :=
  let e := s.effective g i
  let m := s.eng.settings.margin
  ⟨underMargin m e.pUp, underMargin m e.pDn, underMargin m e.eUp, underMargin m e.eDn⟩

/-- The kinds in which a pair's loads exceed its limits (R73). -/
def State.kinds (s : State) (g i : Nat) : Kinds :=
  let d := (s.cgr.entry g i).load
  let l := s.limits g i
  ⟨decide (d.pUp > l.pUp), decide (d.pDn > l.pDn), decide (d.eUp > l.eUp), decide (d.eDn > l.eDn)⟩

/-- Whether a kinds mask holds a kind. -/
def Kinds.any (k : Kinds) : Bool := k.pUp || k.pDn || k.eUp || k.eDn

/-- Whether `new` holds a kind that `old` does not. -/
def Kinds.gains (old new : Kinds) : Bool :=
  (new.pUp && !old.pUp) || (new.pDn && !old.pDn) || (new.eUp && !old.eUp) || (new.eDn && !old.eDn)

/-! ### Rescans (5.5) -/

/-- List order: by interval, then group (R74). -/
def Deficit.before (a b : Deficit) : Bool :=
  decide (a.interval < b.interval ∨ (a.interval = b.interval ∧ a.group < b.group))

/-- Whether an entry names the pair of another. -/
def Deficit.samePair (a b : Deficit) : Bool := a.interval == b.interval && a.group == b.group

/-- The deficit test of a pair given as interval and group, as a list entry. -/
def State.test (s : State) (pair : Nat × Nat) : Deficit := ⟨pair.2, pair.1, s.kinds pair.2 pair.1⟩

/-- The list after additions, with whether one was made and whether the flag was set (R75 step 3). -/
structure Additions where
  list : List Deficit
  added : Bool
  overflow : Bool
  deriving DecidableEq, Repr

/-- One addition in its place in list order: a full list refuses it, or gives up its last entry to it (R75). -/
def Additions.add (a : Additions) (d : Deficit) : Additions :=
  if a.list.length < Config.deficitCapacity then
    { a with list := insertBy Deficit.before d a.list, added := true }
  else if a.list.any (fun x => d.before x) then
    ⟨(insertBy Deficit.before d a.list).take Config.deficitCapacity, true, true⟩
  else { a with overflow := true }

/-- Steps 1 and 2 of R75: listed pairs of the scope leave the list or take the kinds found. -/
def State.keepListed (s : State) (scope : List (Nat × Nat)) : List Deficit :=
  s.cgr.deficits.filterMap (fun d =>
    if (d.interval, d.group) ∈ scope then
      if (s.kinds d.group d.interval).any then some { d with kinds := s.kinds d.group d.interval } else none
    else some d)

/-- Whether an entry of `new` gains a kind over the entry of the same pair in `old`. -/
def gainsKind (old new : List Deficit) : Bool :=
  new.any (fun n => old.any (fun o => o.samePair n && o.kinds.gains n.kinds))

/-- A rescan of a scope with the overflow flag clear (R75). -/
def State.scopeRescan (s : State) (scope : List (Nat × Nat)) : State :=
  let kept := s.keepListed scope
  let found := (scope.map s.test).filter (fun d =>
    d.kinds.any && !s.cgr.deficits.any (fun o => o.samePair d))
  let a := found.foldl Additions.add ⟨kept, false, false⟩
  { s with cgr := { s.cgr with deficits := a.list, overflow := a.overflow } }.raiseIf
    (a.added || gainsKind s.cgr.deficits kept || a.overflow) .deficit

/-- Every pair of intervals first..first+count-1 and the 64 groups, in list order. -/
def pairsOver (first count : Nat) : List (Nat × Nat) :=
  (List.range' first count).flatMap (fun i => (List.range Config.numGroups).map (fun g => (i, g)))

/-- A full scan while the overflow flag is set (R76): the list is rebuilt from the whole horizon. -/
def State.fullScan (s : State) (b : Nat) : State :=
  let found := ((pairsOver b Config.horizon).map s.test).filter (fun d => d.kinds.any)
  let list := found.take Config.deficitCapacity
  { s with cgr := { s.cgr with
      deficits := list, overflow := decide (found.length > Config.deficitCapacity) } }.raiseIf
    (list.any (fun n => !s.cgr.deficits.any (fun o => o.samePair n)) || gainsKind s.cgr.deficits list) .deficit

/-- A rescan of a scope in list order: pairs outside the horizon are left out, any scope widens to a full scan
while the overflow flag is set, and before a book interval exists there is nothing to scan (R30, R61, R75, R76). -/
def State.rescan (s : State) (scope : List (Nat × Nat)) : State :=
  match s.eng.bookInterval with
  | none => s
  | some b =>
    if s.cgr.overflow then s.fullScan b
    else s.scopeRescan (scope.filter (fun p => s.eng.inHorizon p.1))

/-- A rescan whose scope is the whole horizon (R30, TABLE 5(d)). -/
def State.rescanAll (s : State) : State :=
  s.rescan (pairsOver (s.eng.bookInterval.getD 0) Config.horizon)

end Sys2Proof.Machine
end

