-- ==== Sys2Proof/Machine/Products.lean ====
section
/-! DEFINITION. The work of the PRODUCT_SET, PRODUCT_READ and CONFIGURE_MARKET jobs (chapter 2). A job's work gives
the new state, the reply's status and the reply's body. -/

namespace Sys2Proof.Machine

/-- What a request's work gives: the state after it, the status and the body of its reply (R87). -/
abbrev Answer := State × Status × ReplyBody

/-- A refusal with no body: nothing changes but the reply. -/
def refuse (s : State) (c : Status) : Answer := (s, c, .empty)

/-- The number of commitment records of a product in a state (R27). -/
def State.countOf (s : State) (p : Nat) (st : CommitState) : Nat :=
  (s.cmt.records.filter (fun r => r.product == p && r.state == st)).length

/-- Whether a line is armed with a product. -/
def LineState.armedWith (x : LineState) (p : Nat) : Bool := x.armed == some p

/-- The product report (R27). -/
def State.productReport (s : State) (p : Nat) : ProductReport :=
  { product := p
    record := s.product p
    held := s.countOf p .held
    awarded := s.countOf p .awarded
    active := (s.acu.record p).isSome
    uftArmed := s.acu.uft.armedWith p
    oftArmed := s.acu.oft.armedWith p }

/-- Whether a product is referenced (R22). -/
def State.referenced (s : State) (p : Nat) : Bool :=
  s.cmt.records.any (fun r => r.product == p && (r.state == .held || r.state == .awarded))
    || (s.acu.record p).isSome || s.acu.uft.armedWith p || s.acu.oft.armedWith p

/-- A direction code (TABLE 12(d)); a code that names none of UP, DOWN and SYM reads as NONE. -/
def directionOf (b : Byte) : Direction :=
  if b = 1#8 then .up else if b = 2#8 then .down else if b = 3#8 then .sym else .none

/-- The product record a PRODUCT_SET carries. -/
def productRecord (a : ProductArgs) : Product :=
  { direction := directionOf a.direction
    fullTicks := a.fullTicks.toNat
    verifyDelay := a.verifyDelay.toNat
    sustain := a.sustain.toNat
    minimum := a.minimum.toNat
    step := a.step.toNat
    tolerance := a.tolerance.toNat
    enabled := a.enabled = 1#8 }

/-- Whether every field lies in TABLE 2(a) (R23 item 3). An enabled byte other than 0 and 1 names neither value
(DEDUCED, log 10). -/
def productInRange (a : ProductArgs) : Bool :=
  let r := productRecord a
  decide (r.direction ≠ .none) && decide (1 ≤ r.fullTicks ∧ r.fullTicks ≤ 3000) && decide (r.verifyDelay ≤ 600)
    && decide (1 ≤ r.sustain ∧ r.sustain ≤ 240) && decide (1 ≤ r.minimum)
    && decide (1 ≤ r.step ∧ r.step ≤ r.minimum) && decide (r.tolerance ≤ 500)
    && decide (a.enabled = 0#8 ∨ a.enabled = 1#8)

/-- The PRODUCT_SET job (R23, R24, R27). -/
def productSetWork (a : ProductArgs) (s : State) : Answer :=
  let p := a.product.toNat
  if p > 7 then refuse s .range
  else if s.referenced p then (s, .inUse, .product (s.productReport p))
  else if !productInRange a then refuse s .range
  else
    let t := { s with cmt := { s.cmt with products := Table.set {} s.cmt.products p (productRecord a) } }
    (t, .ok, .product (t.productReport p))

/-- The PRODUCT_READ job (R27). -/
def productReadWork (product : Byte) (s : State) : Answer :=
  if product.toNat > 7 then refuse s .range else (s, .ok, .product (s.productReport product.toNat))

/-- The settings a CONFIGURE_MARKET leaves when it passes: margin and holdover limit are clamped (R28). -/
def marketSettings (a : MarketArgs) : Settings :=
  { length := a.length.toNat
    lead := a.lead.toNat
    near := a.near.toNat
    margin := min 64 a.margin.toNat
    holdoverLimit := clampNat 10 3600 a.holdover.toNat }

/-- The checks of CONFIGURE_MARKET in their order (R28, R29); `none` when it passes. -/
def configureMarketCheck (a : MarketArgs) (s : State) : Option Status :=
  let x := marketSettings a
  if x.length ∉ [300, 900, 1800, 3600] then some .range
  else if x.lead = 0 ∨ x.lead > 8 then some .range
  else if x.near > 3 then some .range
  else if s.mtu.timeState ≠ .unset ∧ (x.length ≠ s.eng.settings.length ∨ x.lead ≠ s.eng.settings.lead) then
    some .wrongState
  else none

/-- The CONFIGURE_MARKET job (R28, R30): the five settings are written together, and a change of margin or near
window rescans the horizon. -/
def configureMarketWork (a : MarketArgs) (s : State) : Answer :=
  match configureMarketCheck a s with
  | some c => (s, c, .settings s.eng.settings)
  | none =>
    let old := s.eng.settings
    let t := { s with eng := { s.eng with settings := marketSettings a } }
    let u := if (marketSettings a).margin ≠ old.margin ∨ (marketSettings a).near ≠ old.near then t.rescanAll else t
    (u, .ok, .settings (marketSettings a))

end Sys2Proof.Machine
end

