-- ==== Sys2Proof/Machine/Fleet.lean ====
section
/-! DEFINITION. The work of the FLEET jobs SITE_SET, GROUP_SET, CURVE_SET and FORECAST, and of READ_GROUP (chapter 3
and section 5.3). -/

namespace Sys2Proof.Machine

/-- A group code of a site record: 255 is NONE (TABLE 12(d) note 2). -/
def groupOf (b : Byte) : Option Nat := if b = Config.noneCode then none else some b.toNat

/-- A site's registry fields as SITE_SET stores them, clamped into TABLE 3(a) (R37). -/
def siteRecord (a : SiteArgs) : SiteReg :=
  { group := groupOf a.group
    energy := clampNat 1 2000 a.energy.toNat
    discharge := min 1000 a.discharge.toNat
    charge := min 1000 a.charge.toNat
    floor := min 1000 a.floor.toNat }

/-- The SITE_SET job (R37, R38). -/
def siteSetWork (a : SiteArgs) (s : State) : Answer :=
  if a.site.toNat > 4095 then refuse s .range
  else if a.group.toNat > 63 ∧ a.group ≠ Config.noneCode then refuse s .range
  else
    ({ s with frg := { s.frg with sites := Table.set {} s.frg.sites a.site.toNat (siteRecord a) } }.raiseRollup,
      .ok, .site (siteRecord a))

/-- The number of commitment records in a state that have a share in a group (R40). -/
def State.sharesIn (s : State) (g : Nat) (st : CommitState) : Nat :=
  (s.cmt.records.filter (fun r => r.state == st && r.hasShare g)).length

/-- Whether a HELD or AWARDED record carries a share in a group (R41). -/
def State.inUse (s : State) (g : Nat) : Bool :=
  s.cmt.records.any (fun r => (r.state == .held || r.state == .awarded) && r.hasShare g)

/-- GROUP_SET's report: the fields in force and the records that use the group (R40). -/
def State.groupReport (s : State) (g : Nat) : ReplyBody :=
  .groupSet (s.frg.group g) (s.sharesIn g .held) (s.sharesIn g .awarded)

/-- The GROUP_SET job (R40, R42). -/
def groupSetWork (a : GroupArgs) (s : State) : Answer :=
  let g := a.group.toNat
  if g > 63 then refuse s .range
  else if a.zone.toNat > 15 then refuse s .range
  else if a.curveClass.toNat > 3 then refuse s .range
  else if a.zone.toNat ≠ (s.frg.group g).zone ∧ s.inUse g = true then (s, .inUse, s.groupReport g)
  else
    let r : GroupReg := ⟨a.zone.toNat, a.curveClass.toNat, min 1000 a.ceiling.toNat⟩
    let t := { s with frg := { s.frg with groups := Table.set {} s.frg.groups g r } }.raiseRollup
    (t, .ok, t.groupReport g)

/-- The CURVE_SET job (R43): directions are 0 DISCHARGE and 1 CHARGE (TABLE 12(d) note 2). -/
def curveSetWork (a : CurveArgs) (s : State) : Answer :=
  if a.curveClass.toNat > 3 then refuse s .range
  else if a.direction.toNat > 1 then refuse s .range
  else
    let charge := decide (a.direction = 1#8)
    let v := a.values.map (fun x => min 256 x.toNat)
    ({ s with frg := { s.frg with
        curves := Table.set flatCurve s.frg.curves (curveKey a.curveClass.toNat charge) v } }.raiseRollup,
      .ok, .curve a.curveClass.toNat charge v)

/-- A forecast entry's four values. -/
def forecastQuad (e : ForecastArgs) : Quad := ⟨e.pUp.toNat, e.pDn.toNat, e.eUp.toNat, e.eDn.toNat⟩

/-- Writes forecasts from interval `i` on, in interval order; loads are not touched (R69). -/
def Grid.writeForecasts (c : Grid) (g : Nat) : Nat → List ForecastArgs → Grid
  | _, [] => c
  | i, e :: t => (c.modify g i (fun x => { x with forecast := forecastQuad e })).writeForecasts g (i + 1) t

/-- The checks of FORECAST in their order (R69). -/
def forecastCheck (a : ForecastBody) (s : State) : Option Status :=
  if a.group.toNat > 63 then some .range
  else
    match s.eng.bookInterval with
    | none => some .range
    | some b =>
      if a.first.toNat < b ∨ a.first.toNat + a.entries.length - 1 > b + 95 then some .range else none

/-- The FORECAST job (R69): writes, rescans the written entries, and reports the kinds the test found. -/
def forecastWork (a : ForecastBody) (s : State) : Answer :=
  match forecastCheck a s with
  | some c => refuse s c
  | none =>
    let g := a.group.toNat
    let i := a.first.toNat
    let written := List.range' i a.entries.length
    let t := { s with cgr := s.cgr.writeForecasts g i a.entries }.rescan (written.map (fun k => (k, g)))
    (t, .ok, .forecast g i (written.map (fun k => t.kinds g k)) t.cgr.overflow)

/-- The number of sites whose registry group field holds a group (R46). -/
def Registry.assigned (r : Registry) (g : Nat) : Nat := (r.sites.filter (fun e => e.2.group == some g)).length

/-- The READ_GROUP job (R46). -/
def readGroupWork (group : Byte) (s : State) : Answer :=
  let g := group.toNat
  if g > 63 then refuse s .range
  else (s, .ok, .group g (s.frg.group g) (s.frg.assigned g) (s.tiu.group g) (s.dsp.group g))

end Sys2Proof.Machine
end

