-- ==== Sys2Proof/Machine/Telemetry.lean ====
section
/-! DEFINITION. The Telemetry Intake Unit (chapter 4): TELEMETRY and CONFIGURE_FLEET on acceptance, the periodic
timer, and stages 1 to 4 of the rollup job. -/

namespace Sys2Proof.Machine

/-! ### On acceptance (4.2, 4.3) -/

/-- What a report stores (R49). -/
def storedReport (r : Report) (now : Word) : RawTelemetry :=
  { soc := min 1000 r.soc.toNat
    online := r.status = 1#8
    measured := r.measured.toInt
    stamp := now }

/-- Stores one report, or skips it when its site number is 4096 or above (R49, R50). -/
def Intake.store (t : Intake) (now : Word) (r : Report) : Intake :=
  if r.site.toNat < Config.numSites then
    { t with raw := Table.set none t.raw r.site.toNat (some (storedReport r now)) }
  else t

/-- TELEMETRY, taken whole as one event (R48, R49, R50). -/
def telemetryWork (reports : List Report) (s : State) : Answer :=
  let stored := (reports.filter (fun r => decide (r.site.toNat < Config.numSites))).length
  ({ s with tiu := reports.foldl (fun t r => t.store s.mtu.runSeconds r) s.tiu }.raiseRollup,
    .ok, .telemetry stored (reports.length - stored))

/-- CONFIGURE_FLEET (R52): both values clamped and written; a changed stale limit raises ROLLUP. -/
def configureFleetWork (staleLimit rollupPeriod : Half) (s : State) : Answer :=
  let l := clampNat 1 600 staleLimit.toNat
  let p := clampNat 1 60 rollupPeriod.toNat
  let t := { s with tiu := { s.tiu with staleLimit := l, rollupPeriod := p } }
  (if l ≠ s.tiu.staleLimit then t.raiseRollup else t, .ok, .fleetSettings l p)

/-- The periodic timer at a second mark (R54). -/
def State.periodicTimer (s : State) : State :=
  if s.tiu.periodCount + 1 ≥ s.tiu.rollupPeriod then
    { s with tiu := { s.tiu with periodCount := 0 } }.raiseRollup
  else { s with tiu := { s.tiu with periodCount := s.tiu.periodCount + 1 } }

/-! ### The rollup job, stages 1 to 4 (4.4, 4.5) -/

/-- Stage 1: the snapshot (R55). -/
def State.rollupSnapshot (s : State) : RollupSnapshot :=
  { runSeconds := s.mtu.runSeconds
    staleLimit := s.tiu.staleLimit
    raw := s.tiu.raw
    registry := s.frg
    previousFresh := (s.tiu.sites.filter (fun e => e.2.fresh)).map (·.1) }

/-- Whether a report counts at a snapshot: ONLINE, and its age modulo 2^32 within the stale limit (R56). -/
def RollupSnapshot.current (n : RollupSnapshot) (r : RawTelemetry) : Bool :=
  r.online && decide ((n.runSeconds - r.stamp).toNat ≤ n.staleLimit)

/-- The derating value of the band of a state of charge (R36, R57). -/
def Registry.derating (f : Registry) (curveClass : Nat) (charge : Bool) (soc : Nat) : Nat :=
  (f.curve curveClass charge).getD (soc / 64) 0

/-- Stage 2: a site's figures (R56, R57). A stale site keeps only its member group. -/
def RollupSnapshot.siteResult (n : RollupSnapshot) (i : Nat) : SiteResult :=
  let reg := n.registry.site i
  match reg.group, Table.get none n.raw i with
  | some g, some r =>
    if n.current r then
      let grp := n.registry.group g
      { fresh := true
        pUp := reg.discharge * n.registry.derating grp.curveClass false r.soc / 256
        pDn := reg.charge * n.registry.derating grp.curveClass true r.soc / 256
        eUp := (r.soc - reg.floor) * reg.energy / 1000
        eDn := (grp.ceiling - r.soc) * reg.energy / 1000
        measured := r.measured
        member := some g }
    else { member := some g }
  | group, _ => { member := group }

/-- The fresh members of a group in a rollup's site results, in ascending site number (R58, R59). -/
def freshMembers (sites : Table SiteResult) (g : Nat) : List (Nat × SiteResult) :=
  sites.filter (fun e => e.2.fresh && e.2.member == some g)

/-- Stage 3: a group's sums over its fresh members, the four live sums saturating at 65535 (R58). -/
def groupSums (sites : Table SiteResult) (g : Nat) : GroupLive :=
  let m := (freshMembers sites g).map (·.2)
  { pUp := saturate 65535 (m.map (·.pUp)).sum
    pDn := saturate 65535 (m.map (·.pDn)).sum
    eUp := saturate 65535 (m.map (·.eUp)).sum
    eDn := saturate 65535 (m.map (·.eDn)).sum
    measured := (m.map (·.measured)).sum
    fresh := m.length }

/-- Stages 2 to 4: the whole rollup result is replaced, and STALE_SITES is raised once if a site that was fresh is
stale (R59, R60). -/
def State.rollupFigures (s : State) (n : RollupSnapshot) : State :=
  let sites := Table.tabulate {} Config.numSites n.siteResult
  let groups := Table.tabulate {} Config.numGroups (groupSums sites)
  { s with tiu := { s.tiu with sites := sites, groups := groups } }.raiseIf
    (n.previousFresh.any (fun i => !(Table.get ({} : SiteResult) sites i).fresh)) .staleSites

end Sys2Proof.Machine
end

