-- ==== Sys2Proof/Machine/Admission.lean ====
section
/-! DEFINITION. Admission and award (chapter 8), RELEASE and the removal of records (7.3): the computing phase and
commit of HOLD and QUERY_HEADROOM, and the AWARD and RELEASE jobs. -/

namespace Sys2Proof.Machine

/-! ### Ids (R96) -/

/-- The issue counter of an id. -/
def Commitments.issue (c : Commitments) (i : Nat) : Byte := Table.get 0#8 c.issues i

/-- Whether an id is eligible: free, and its counter's value not held by a queued settlement record of the id. -/
def Commitments.eligible (c : Commitments) (i : Nat) : Bool :=
  (c.record i).isNone && !c.queue.any (fun q => q.id == i && q.issue == c.issue i)

/-- The lowest eligible id, if any. -/
def Commitments.lowestEligible (c : Commitments) : Option Nat := (List.range Config.numIds).find? c.eligible

/-- The record that a pair of id and issue names, if any (R96, R99, R125). -/
def Commitments.named (c : Commitments) (i : Nat) (issue : Byte) : Option Commitment :=
  if i > 511 then none
  else
    match c.record i with
    | some r => if r.issue = issue then some r else none
    | none => none

/-- Places a record in the table, kept in ascending id. -/
def Commitments.place (c : Commitments) (r : Commitment) : Commitments :=
  { c with records := insertBy (fun a b => decide (a.id < b.id)) r c.records }

/-- A record leaves the table, whatever the cause: its id's counter is increased by 1 (R96). -/
def Commitments.remove (c : Commitments) (i : Nat) : Commitments :=
  { c with
    records := c.records.filter (fun r => r.id != i)
    issues := Table.set 0#8 c.issues i (c.issue i + 1#8) }

/-- Replaces the record of an id. -/
def Commitments.replace (c : Commitments) (r : Commitment) : Commitments :=
  { c with records := c.records.map (fun x => if x.id = r.id then r else x) }

/-- Removes a record with its loads and rescans the entries they lay in (R67, R68, R99, R106, R126). -/
def State.dropCommitment (s : State) (r : Commitment) : State :=
  let t := s.subtractLoads r
  ({ t with cmt := t.cmt.remove r.id }).rescan (s.sharePairs r.first r.count r.shares)

/-! ### Headroom, selection, allocation (8.2, 8.3) -/

/-- The four spares of a pair (R114). -/
def State.spares (s : State) (g i : Nat) : Quad := (s.limits g i).sub (s.cgr.entry g i).load

/-- The direction headroom of a pair (R115). -/
def State.directionHeadroom (s : State) (p : Product) (g i : Nat) : Nat :=
  let x := s.spares g i
  let up := min x.pUp (60 * x.eUp / p.sustain)
  let dn := min x.pDn (60 * x.eDn / p.sustain)
  match p.direction with
  | .none => 0
  | .up => up
  | .down => dn
  | .sym => min up dn

/-- The group headroom over a range of `count` intervals, held at 65535, and its binding interval, the earliest at
which the direction headroom is least (R116). -/
def State.groupHeadroom (s : State) (p : Product) (first count g : Nat) : Headroom :=
  let rest := (List.range' (first + 1) (count - 1)).map (fun i => (s.directionHeadroom p g i, i))
  let least := rest.foldl (fun a b => if b.1 < a.1 then b else a) (s.directionHeadroom p g first, first)
  ⟨g, saturate 65535 least.1, least.2⟩

/-- The groups of a zone, ascending (R114). -/
def State.zoneGroups (s : State) (z : Nat) : List Nat :=
  (List.range Config.numGroups).filter (fun g => (s.frg.group g).zone == z)

/-- The eligible groups: headroom at least 1 (R116). -/
def eligibleGroups (l : List Headroom) : List Headroom := l.filter (fun h => decide (1 ≤ h.power))

/-- Up to 16 eligible groups, the largest headroom first, the lower group number first between equals (R117). -/
def selectGroups (l : List Headroom) : List Headroom :=
  (sortBy (fun a b => decide (a.power > b.power ∨ (a.power = b.power ∧ a.group < b.group))) (eligibleGroups l)).take 16

/-- The total headroom T of the selected groups (R117). -/
def totalHeadroom (l : List Headroom) : Nat := (l.map (·.power)).sum

/-- The largest multiple of the quantity step not above `t`, or 0 if it is below the minimum quantity (R118). -/
def offerable (p : Product) (t : Nat) : Nat :=
  let m := t / p.step * p.step
  if m < p.minimum then 0 else m

/-- Shares by largest remainder among groups, ascending, zeros dropped (R119, R127). -/
def allocate (q t : Nat) (weights : List (Nat × Nat)) : List Share :=
  ((largestRemainder q t (sortBy (fun a b => decide (a.1 < b.1)) weights)).filter
    (fun w => decide (w.2 ≠ 0))).map (fun w => ⟨w.1, w.2⟩)

/-! ### The computing phase (R88) -/

/-- The scratch of a job refused by a check before any headroom is worked. -/
def State.refusedScratch (s : State) (c : Status) (gate : GateStatus) : Scratch :=
  { refusal := some c, considered := [], selected := [], shares := [],
    clock := s.mtu.clock, book := s.eng.bookInterval.getD 0, gate := gate }

/-- HOLD's checks 1 to 6 in their order (R113). -/
def holdCheck (a : HoldArgs) (s : State) : Option Status :=
  let p := s.product a.product.toNat
  let q := a.quantity.toNat
  let first := a.first.toNat
  let count := a.count.toNat
  if !s.mtu.commerce then some .wrongState
  else if a.product.toNat > 7 then some .range
  else if !p.enabled then some .disabled
  else if count = 0 ∨ count > 16 ∨ a.zone.toNat > 15 ∨ q < p.minimum ∨ q % p.step ≠ 0 then some .range
  else if first ≤ s.mtu.clock + s.eng.settings.lead then some .gateClosed
  else
    match s.eng.bookInterval with
    | none => some .range
    | some b =>
      if first + count - 1 > b + 95 then some .range
      else if s.cmt.lowestEligible.isNone then some .tableFull
      else none

/-- HOLD's computing phase (R113 to R119). -/
def holdScratch (a : HoldArgs) (s : State) : Scratch :=
  let gate := s.gateStatus a.first.toNat
  match holdCheck a s with
  | some c => s.refusedScratch c gate
  | none =>
    let p := s.product a.product.toNat
    let considered := (s.zoneGroups a.zone.toNat).map (s.groupHeadroom p a.first.toNat a.count.toNat)
    let selected := selectGroups considered
    let t := totalHeadroom selected
    let q := a.quantity.toNat
    { refusal := if t < q then some .short else none
      considered := considered
      selected := selected
      shares := if t < q then [] else allocate q t (selected.map (fun h => (h.group, h.power)))
      clock := s.mtu.clock
      book := s.eng.bookInterval.getD 0
      gate := gate }

/-- QUERY_HEADROOM's checks in their order (R123). -/
def queryCheck (a : QueryArgs) (s : State) : Option Status :=
  let first := a.first.toNat
  let count := a.count.toNat
  if a.product.toNat > 7 then some .range
  else if (s.product a.product.toNat).direction = .none then some .disabled
  else if count = 0 ∨ count > 16 ∨ a.zone.toNat > 15 then some .range
  else
    match s.eng.bookInterval with
    | none => some .range
    | some b => if first < b ∨ first + count - 1 > b + 95 then some .range else none

/-- QUERY_HEADROOM's computing phase (R123). -/
def queryScratch (a : QueryArgs) (s : State) : Scratch :=
  let gate := s.gateStatus a.first.toNat
  match queryCheck a s with
  | some c => s.refusedScratch c gate
  | none =>
    let considered := (s.zoneGroups a.zone.toNat).map
      (s.groupHeadroom (s.product a.product.toNat) a.first.toNat a.count.toNat)
    { refusal := none
      considered := considered
      selected := selectGroups considered
      shares := []
      clock := s.mtu.clock
      book := s.eng.bookInterval.getD 0
      gate := gate }

/-- The scratch that an ADMISSION job's computing phase fills; no other request enters the class. -/
def admissionScratch (r : Request) (s : State) : Scratch :=
  match r with
  | .hold a => holdScratch a s
  | .queryHeadroom a => queryScratch a s
  | _ => s.refusedScratch .malformed .outside

/-! ### The commit (8.4, R123, R124) -/

/-- The record a HOLD commit creates (R95, R120). -/
def heldRecord (a : HoldArgs) (id : Nat) (issue : Byte) (shares : List Share) : Commitment :=
  { id := id
    issue := issue
    state := .held
    product := a.product.toNat
    zone := a.zone.toNat
    first := a.first.toNat
    count := a.count.toNat
    quantity := a.quantity.toNat
    shares := shares }

/-- The HOLD commit: the re-checks of R91, then the record and its loads (R120, R121). A refusal of the computing
phase goes to its reply (R88, R118). -/
def holdCommit (a : HoldArgs) (x : Scratch) (s : State) : Answer :=
  match x.refusal with
  | some .short =>
    let t := totalHeadroom x.selected
    (s, .short, .short t (offerable (s.product a.product.toNat) t) (eligibleGroups x.considered).length)
  | some c => refuse s c
  | none =>
    if !s.mtu.commerce then refuse s .wrongState
    else if a.first.toNat ≤ s.mtu.clock + s.eng.settings.lead then refuse s .gateClosed
    else
      match s.cmt.lowestEligible with
      | none => refuse s .tableFull
      | some id =>
        let r := heldRecord a id (s.cmt.issue id) x.shares
        (({ s with cmt := s.cmt.place r }).addLoads r, .ok, .shares r.id r.issue r.quantity r.shares)

/-- The QUERY_HEADROOM reply, formed from the scratch (R124). -/
def queryCommit (a : QueryArgs) (x : Scratch) (s : State) : Answer :=
  match x.refusal with
  | some c => refuse s c
  | none =>
    let t := totalHeadroom x.selected
    (s, .ok, .headroom x.clock x.book x.gate x.considered.length (eligibleGroups x.considered).length x.selected t
      (offerable (s.product a.product.toNat) (min t 65535)))

/-! ### AWARD and RELEASE (8.6, 7.3) -/

/-- AWARD's checks 2 to 4 (R125), for the record found. -/
def awardCheck (r : Commitment) (s : State) : Option Status :=
  if r.state ≠ .held then some .wrongState
  else if !s.mtu.commerce then some .wrongState
  else if s.gateStatus r.first ≠ .open then some .gateClosed
  else none

/-- A record whose shares are reduced from its quantity to `a` by largest remainder (R127). -/
def Commitment.reduced (r : Commitment) (a : Nat) : Commitment :=
  { r with
    state := .awarded
    quantity := a
    shares := allocate a r.quantity (r.shares.map (fun x => (x.group, x.power))) }

/-- What an award takes from the loads for an old share: the difference of the two contributions, each energy
figure a ceiling (R128). -/
def awardDrop (p : Product) (new : Commitment) (x : Share) : Quad :=
  (contribution p x.power).sub (contribution p (new.shareIn x.group))

/-- The AWARD job (R125 to R128). -/
def awardWork (a : AwardArgs) (s : State) : Answer :=
  match s.cmt.named a.id.toNat a.issue with
  | none => refuse s .unknown
  | some r =>
    match awardCheck r s with
    | some c => refuse s c
    | none =>
      let q := a.quantity.toNat
      let p := s.product r.product
      if q = 0 then (s.dropCommitment r, .ok, .shares r.id r.issue 0 [])
      else if q > r.quantity ∨ q < p.minimum ∨ q % p.step ≠ 0 then refuse s .range
      else
        let n := r.reduced q
        let t := s.changeLoads r.first r.count r.shares (awardDrop p n) Quad.sub
        (({ t with cmt := t.cmt.replace n }).rescan (s.sharePairs r.first r.count r.shares),
          .ok, .shares n.id n.issue n.quantity n.shares)

/-- The RELEASE job (R99). -/
def releaseWork (a : ReleaseArgs) (s : State) : Answer :=
  match s.cmt.named a.id.toNat a.issue with
  | none => refuse s .unknown
  | some r =>
    match r.state with
    | .settling => refuse s .wrongState
    | .held => (s.dropCommitment r, .ok, .released r.id r.issue r.state)
    | .awarded =>
      if !s.mtu.commerce then refuse s .wrongState
      else if s.gateStatus r.first ≠ .open then refuse s .gateClosed
      else (s.dropCommitment r, .ok, .released r.id r.issue r.state)

end Sys2Proof.Machine
end

