-- ==== Sys2Proof/Machine/Activation.lean ====
section
/-! DEFINITION. The Activation Control Unit (chapter 9): activation orders and trip jobs, the ramp and accumulators at
a tick event, trip qualification, and the requests it takes on acceptance. -/

namespace Sys2Proof.Machine

/-! ### Records (9.1) -/

/-- Puts a product's record in the list, in product order, in place of the one it had (R130). -/
def Acu.put (a : Acu) (r : Activation) : Acu :=
  let others := a.records.filter (fun x => x.product != r.product)
  { a with records := insertBy (fun x y => decide (x.product < y.product)) r others }

/-- A fraction clamped into the range of a direction (R131 item 4): a DOWN product takes the magnitude, stored
negative. -/
def Direction.clamp (d : Direction) (f : Int) : Int :=
  match d with
  | .none => 0
  | .up => clampInt 0 1000 f
  | .down => -(min 1000 (f.natAbs : Int))
  | .sym => clampInt (-1000) 1000 f

/-- Whether an AWARDED commitment of a product covers b (R131 item 3, R98). -/
def State.awardedNow (s : State) (p : Nat) : Bool := s.deliverySet.any (fun r => r.product == p)

/-- Items 1 to 3 of R131. -/
def State.orderCheck (s : State) (p : Nat) : Option Status :=
  if p > 7 then some .range
  else if !(s.product p).enabled then some .disabled
  else if !s.awardedNow p then some .nothingAwarded
  else none

/-- What an order of a nonzero fraction does to a product's record (R131 item 6, R132, R141): `none` refuses with
WRONG_STATE. A target equal to the one held leaves the record as it is, its origin kept (log 16). -/
def Acu.retarget (a : Acu) (p : Nat) (f : Int) (o : ActOrigin) : Option (Activation × OrderResult) :=
  match a.record p with
  | none => some ({ product := p, target := f, current := 0, origin := o }, .created)
  | some r =>
    if r.target = 0 then
      if r.cause = some .sustain ∨ r.cause = some .intervalEnd then none
      else some ({ r with target := f, cause := none, origin := o }, .retargeted)
    else if r.target = f then some (r, .unchanged)
    else some ({ r with target := f, origin := o }, .retargeted)

/-- Ends a product's record as DEACTIVATE does: a record already ending keeps its cause (R133). -/
def Activation.deactivated (r : Activation) : Activation × OrderResult :=
  if r.target = 0 then (r, .unchanged) else ({ r with target := 0, cause := some .deactivate }, .ended)

/-- The DEACTIVATE of a product whose number is in range (R133). -/
def State.deactivateProduct (s : State) (p : Nat) : Answer :=
  match s.acu.record p with
  | none => refuse s .unknown
  | some r =>
    ({ s with acu := s.acu.put r.deactivated.1 }, .ok, .activation r.deactivated.1 r.deactivated.2)

/-- The ACTIVATE job (R131, R132, R133). -/
def activateWork (a : ActivateArgs) (s : State) : Answer :=
  let p := a.product.toNat
  match s.orderCheck p with
  | some c => refuse s c
  | none =>
    let f := (s.product p).direction.clamp a.fraction.toInt
    if f = 0 then s.deactivateProduct p
    else
      match s.acu.retarget p f .grid with
      | none => refuse s .wrongState
      | some (r, o) => ({ s with acu := s.acu.put r }, .ok, .activation r o)

/-- The DEACTIVATE job (R133). -/
def deactivateWork (product : Byte) (s : State) : Answer :=
  if product.toNat > 7 then refuse s .range else s.deactivateProduct product.toNat

/-- A line as the origin of an activation. -/
def Line.origin : Line → ActOrigin
  | .uft => .uft
  | .oft => .oft

/-- The checks and the record of a trip job (R141). -/
def State.tripOutcome (s : State) (e : TripEvent) : Status × Option Activation :=
  let d := (s.product e.product).direction
  if !d.fits e.line then (.range, none)
  else
    match s.orderCheck e.product with
    | some c => (c, none)
    | none =>
      match s.acu.retarget e.product (d.clamp e.fraction) (Line.origin e.line) with
      | none => (.wrongState, none)
      | some (r, _) => (.ok, some r)

/-- The trip job (R141): works the event, writes the line's last trip record and raises TRIP. -/
def tripWork (e : TripEvent) (s : State) : State :=
  let o := s.tripOutcome e
  let a := match o.2 with
    | some r => s.acu.put r
    | none => s.acu
  { s with acu := a.withLine e.line { a.line e.line with
      last := some ⟨o.1, e.product, e.fraction, s.mtu.runSeconds⟩ } }.raise .trip

/-! ### The tick event (9.3) -/

/-- The ramp step ceil(1000 / f) (R135). -/
def rampStep (p : Product) : Nat := ceilDiv 1000 p.fullTicks

/-- The sustain limit in tick events (R137). -/
def sustainTicks (p : Product) : Nat := p.sustain * 600

/-- Step a of R135: what a tick adds to a product's account. -/
def Account.tick (x : Account) (current : Int) : Account :=
  { fractionTicks := x.fractionTicks + BitVec.ofNat 48 current.natAbs
    activeTicks := if current = 0 then x.activeTicks else x.activeTicks + 1#32 }

/-- Step b of R135: the sustain count. -/
def Activation.counted (r : Activation) : Activation :=
  if r.current = 0 then r else { r with sustain := saturate 4294967295 (r.sustain + 1) }

/-- Whether step c ends the record: a nonzero target with the sustain count at or past the limit (R137). -/
def Activation.atLimit (r : Activation) (p : Product) : Bool :=
  decide (r.target ≠ 0 ∧ sustainTicks p ≤ r.counted.sustain)

/-- Steps b and c of R135. -/
def Activation.tested (r : Activation) (p : Product) : Activation :=
  if r.atLimit p then { r.counted with target := 0, cause := some .sustain } else r.counted

/-- A fraction moved toward a target by at most a step (R135 step d). -/
def moveToward (current target : Int) (step : Nat) : Int :=
  let d := min step (target - current).natAbs
  if current ≤ target then current + d else current - d

/-- Steps b to d of R135 on one record. -/
def Activation.tick (r : Activation) (p : Product) : Activation :=
  let t := r.tested p
  { t with current := moveToward t.current t.target (rampStep p) }

/-- Whether a record is removed after its tick: fraction and target both 0 (R135). -/
def Activation.finished (r : Activation) : Bool := decide (r.current = 0 ∧ r.target = 0)

/-- The ACU's work on its records at a tick event (R135, R137). -/
def State.rampTick (s : State) : State :=
  let old := s.acu.records
  let moved := old.map (fun r => r.tick (s.product r.product))
  let changed := old.any (fun r => let n := r.tick (s.product r.product); n.finished || decide (n.current ≠ r.current))
  let accounts := old.foldl
    (fun t r => Table.modify {} t r.product (fun x => x.tick r.current)) s.acu.accounts
  let t := { s with acu := { s.acu with
    records := moved.filter (fun r => !r.finished), accounts := accounts } }
  ((t.raiseTimes .sustainLimit (old.filter (fun r => r.atLimit (s.product r.product))).length).raiseTimes
    .activationEnded (moved.filter (·.finished)).length).raiseDispatchIf changed

/-! ### Trip qualification (9.4) -/

/-- The fraction of a line's trips (R83). -/
def Line.fraction : Line → Int
  | .uft => 1000
  | .oft => -1000

/-- Whether an entry of the ACTIVATION class is a trip event of a line. -/
def ActEntry.isTrip (l : Line) : ActEntry → Bool
  | .trip e => e.line == l
  | .order _ => false

/-- A trip on an armed line: a new event, or a merge into the line's queued one (R83). -/
def State.trip (s : State) (l : Line) (p : Nat) : State :=
  if s.eng.activation.any (ActEntry.isTrip l) then
    { s with eng := { s.eng with activationMerges := saturate 255 (s.eng.activationMerges + 1) } }
  else s.joinActivation (.trip ⟨l, p, Line.fraction l⟩)

/-- Qualification of a line (R140): the count becomes 0, the latch is set, and the trip enters the ACTIVATION class or
is counted as unarmed. -/
def State.qualify (s : State) (l : Line) : State :=
  let x := { s.acu.line l with count := 0, latched := true }
  match x.armed with
  | some p => ({ s with acu := s.acu.withLine l x }).trip l p
  | none => { s with acu := s.acu.withLine l { x with unarmed := saturate 255 (x.unarmed + 1) } }

/-- Whether a tick event qualifies a line (R140). -/
def Acu.qualifies (a : Acu) (l : Line) : Bool :=
  (a.line l).asserted && !(a.line l).latched && decide (a.qualification ≤ (a.line l).count + 1)

/-- A line at a tick event (R140). -/
def State.lineTick (s : State) (l : Line) : State :=
  let x := s.acu.line l
  if s.acu.qualifies l then s.qualify l
  else if x.asserted && !x.latched then { s with acu := s.acu.withLine l { x with count := x.count + 1 } }
  else s

/-- The Activation Control Unit at a tick event: its records and its lines. -/
def State.acuTick (s : State) : State := (s.rampTick.lineTick .uft).lineTick .oft

/-- The level of a line's pin rises: with qualification ticks of 0 the assertion qualifies at once (R140). A line
already asserted is not asserted again (log 21). -/
def State.assertLine (s : State) (l : Line) : State :=
  let x := s.acu.line l
  if x.asserted then s
  else
    let t := { s with acu := s.acu.withLine l { x with asserted := true } }
    if s.acu.qualification = 0 ∧ x.latched = false then t.qualify l else t

/-- The level of a line's pin falls: count and latch are cleared (R140). -/
def State.deassertLine (s : State) (l : Line) : State :=
  { s with acu := s.acu.withLine l { s.acu.line l with asserted := false, count := 0, latched := false } }

/-! ### Requests taken on acceptance (9.4, 9.5) -/

/-- A trip line code: 0 UFT, 1 OFT (TABLE 12(d) note 2). -/
def lineOf (b : Byte) : Option Line := if b = 0#8 then some .uft else if b = 1#8 then some .oft else none

/-- ARM_TRIP (R139). -/
def armTripWork (line product : Byte) (s : State) : Answer :=
  match lineOf line with
  | none => refuse s .range
  | some l =>
    if product = Config.noneCode then
      ({ s with acu := s.acu.withLine l { s.acu.line l with armed := none } }, .ok, .armed l none)
    else if product.toNat > 7 then refuse s .range
    else if !(s.product product.toNat).direction.fits l then refuse s .range
    else
      ({ s with acu := s.acu.withLine l { s.acu.line l with armed := some product.toNat } },
        .ok, .armed l (some product.toNat))

/-- CONFIGURE_GRID (R142). -/
def configureGridWork (guard qualification : Byte) (s : State) : Answer :=
  let g := min 50 guard.toNat
  let q := min 20 qualification.toNat
  ({ s with acu := { s.acu with guardTicks := g, qualification := q } }, .ok, .gridSettings g q)

/-- READ_ACTIVATIONS (R143). -/
def readActivationsWork (s : State) : Answer := (s, .ok, .activations s.acu)

end Sys2Proof.Machine
end

