-- ==== Sys2Proof/Machine/Settlement.lean ====
section
/-! DEFINITION. The Commitment Table's reading requests and settlement queue (7.4, 7.6), and the stages of the ROLLOVER
job (7.5) with the settlement figures of R163. -/

namespace Sys2Proof.Machine

/-! ### Reading the table and the deficit list -/

/-- The READ_COMMITMENT job (R101). -/
def readCommitmentWork (id : Half) (s : State) : Answer :=
  if id.toNat > 511 then refuse s .range
  else
    match s.cmt.record id.toNat with
    | none => refuse s .unknown
    | some r => (s, .ok, .commitment r)

/-- The LIST_COMMITMENTS job (R102): up to 32 records matching the filter (0 is ANY) from the start id upward. -/
def listCommitmentsWork (a : ListArgs) (s : State) : Answer :=
  if a.filter.toNat > 3 ∨ a.start.toNat > 511 then refuse s .range
  else
    let found := s.cmt.records.filter (fun r =>
      decide (a.start.toNat ≤ r.id) && (a.filter == 0#8 || a.filter == r.state.code))
    let next := if found.length > 32 then ((found.take 32).getLast?.map (·.id + 1)).getD 512 else 512
    (s, .ok, .list (found.take 32) next)

/-- The READ_DEFICITS job (R78). -/
def readDeficitsWork (start : Byte) (s : State) : Answer :=
  if start.toNat > 63 then refuse s .range
  else
    (s, .ok, .deficits (s.eng.bookInterval.getD 0) s.cgr.deficits.length s.cgr.overflow start.toNat
      ((s.cgr.deficits.drop start.toNat).take 32))

/-! ### Settlement (7.6, 11.7) -/

/-- The settlement figures of a completing record, from its snapshot and the accounts read (R163). -/
def settlementFigures (quantity : Nat) (snapshot now : Account) : Figures :=
  { energy := saturate 65535 (quantity * (now.fractionTicks - snapshot.fractionTicks).toNat / 36000000)
    activeTicks := now.activeTicks - snapshot.activeTicks }

/-- The settlement record of a completed commitment (TABLE 7(c)). -/
def Commitment.settled (r : Commitment) (f : Figures) : Settlement :=
  { id := r.id
    issue := r.issue
    product := r.product
    first := r.first
    count := r.count
    quantity := r.quantity
    energy := f.energy
    activeTicks := f.activeTicks
    shortfalls := r.shortfalls }

/-- A commitment record becomes a settlement record at the queue's tail and leaves the table (R104, R111). -/
def Commitments.settle (c : Commitments) (r : Commitment) (f : Figures) : Commitments :=
  { c.remove r.id with queue := c.queue ++ [r.settled f] }

/-- The SETTLING records in the order they are moved: by last interval, then id (R111). -/
def Commitments.settling (c : Commitments) : List Commitment :=
  sortBy (fun a b => decide (a.last < b.last ∨ (a.last = b.last ∧ a.id < b.id)))
    (c.records.filter (fun r => r.state == .settling))

/-- The READ_SETTLEMENT job (R111): up to 4 records leave the queue and SETTLING commitments take their places. -/
def readSettlementWork (s : State) : Answer :=
  let out := s.cmt.queue.take 4
  let moving := s.cmt.settling.take out.length
  let c := moving.foldl (fun c r => c.settle r (r.figures.getD ⟨0, 0#32⟩)) { s.cmt with queue := s.cmt.queue.drop 4 }
  ({ s with cmt := c }, .ok, .settlements out c.queue.length c.settling.length)

/-! ### The ROLLOVER job's stages (7.5) -/

/-- Completes one record (R104): into the queue while it has room, else SETTLING; SETTLEMENT is raised either way. A
completing record always holds a snapshot (R163; log 17). -/
def State.completeRecord (accounts : Table Account) (s : State) (r : Commitment) : State :=
  let f := settlementFigures r.quantity (r.snapshot.getD {}) (accountOf accounts r.product)
  let c :=
    if s.cmt.queue.length < Config.settlementCapacity then s.cmt.settle r f
    else s.cmt.replace { r with state := .settling, figures := some f }
  { s with cmt := c }.raise .settlement

/-- Stage 1: each AWARDED record whose last interval is `b` completes, in ascending id (R104). -/
def State.stageCompletion (s : State) (accounts : Table Account) (b : Nat) : State :=
  (s.cmt.records.filter (fun r => r.state == .awarded && r.last == b)).foldl (State.completeRecord accounts) s

/-- Stage 2: interval `b` is retired and the book interval becomes b + 1 (R66, R105). -/
def State.stageRetirement (s : State) (b : Nat) : State :=
  { s with cgr := s.cgr.retire b, eng := { s.eng with bookInterval := some (b + 1) } }

/-- Stage 3: each HELD record whose first interval is at or below b + G expires, in ascending id (R106). -/
def State.stageExpiry (s : State) (b : Nat) : State :=
  (s.cmt.records.filter (fun r => r.state == .held && decide (r.first ≤ b + s.eng.settings.lead))).foldl
    (fun t r => (t.dropCommitment r).raise .holdExpired) s

/-- Stage 4, the test: the products with an activation record and no AWARDED record covering b (R107). DESIGN CHOICE (log 25):
they are ordered to end as the activation list has them, in ascending product; the spec gives the orders no sequence. -/
def State.unsupported (s : State) : List Nat :=
  (s.acu.records.map (·.product)).filter (fun p => !s.awardedNow p)

/-- Stage 4, the order to end a product's activation with cause INTERVAL_END (R107, R138); a record that a tick
event has removed since the test is not there to end. -/
def State.orderIntervalEnd (s : State) (p : Nat) : State :=
  { s with acu := { s.acu with records := s.acu.records.map (fun r =>
      if r.product = p then { r with target := 0, cause := some .intervalEnd } else r) } }

/-- Stage 5: each AWARDED record whose first interval is `b` takes its delivery snapshot (R108). -/
def State.stageSnapshots (s : State) (accounts : Table Account) (b : Nat) : State :=
  { s with cmt := { s.cmt with records := s.cmt.records.map (fun r =>
      if r.state = .awarded ∧ r.first = b then { r with snapshot := some (accountOf accounts r.product) } else r) } }

/-- Stage 6: interval b + n is rescanned for all groups (R108). -/
def State.stageNearRescan (s : State) (b : Nat) : State := s.rescan (pairsOver (b + s.eng.settings.near) 1)

/-- The first ROLLOVER after a first start: b takes the calendar origin and the ring is zeroed (R12, R65). -/
def State.initRing (s : State) : State :=
  { s with cgr := { s.cgr with ring := [] }, eng := { s.eng with bookInterval := some s.mtu.origin } }

/-- The test before a ROLLOVER job ends: a set flag is cleared and counted as merged (R86). -/
def Trigger.folded (t : Trigger) : Trigger :=
  if t.flag then ⟨false, saturate 255 (t.merges + 1)⟩ else t

/-- The next event of a ROLLOVER job at a stage, with the stage it then stands at; `none` ends it (R86, R103). -/
def State.rolloverEvent (s : State) (stage : RolloverStage) : State × Option RolloverStage :=
  match stage, s.eng.bookInterval with
  | .between, none => (s.initRing, some .between)
  | .between, some b =>
    if b < s.mtu.clock then (s, some (.completion s.acu.accounts))
    else ({ s with eng := { s.eng with housekeeping := s.eng.housekeeping.folded } }, none)
  | .completion a, b => (s.stageCompletion a (b.getD 0), some (.retirement a))
  | .retirement a, b => (s.stageRetirement (b.getD 0), some (.expiry a))
  | .expiry a, b => (s.stageExpiry (b.getD 0), some (.support a))
  | .support a, _ => (s, some (.intervalEnd a s.unsupported))
  | .intervalEnd a [], _ => (s, some (.snapshots a))
  | .intervalEnd a (p :: t), _ => (s.orderIntervalEnd p, some (.intervalEnd a t))
  | .snapshots a, b => (s.stageSnapshots a (b.getD 0), some .nearRescan)
  | .nearRescan, b => (s.stageNearRescan (b.getD 0), some .raise)
  | .raise, _ => (s.raiseDispatch, some .between)

end Sys2Proof.Machine
end

