-- ==== Sys2Proof/Machine/Dispatching.lean ====
section
/-! DEFINITION. The Dispatch Unit (chapter 10): its tick event, the dispatch job's start snapshot and commit, and its
two reading requests. -/

namespace Sys2Proof.Machine

/-! ### The tick event (R145, R149) -/

/-- A group at a tick event: a running guard loses one tick and ends at 0 (R149). -/
def GroupDispatch.tick (d : GroupDispatch) : GroupDispatch :=
  if d.guard then { d with guard := decide (1 < d.remaining), remaining := d.remaining - 1 } else d

/-- Whether a group's guard ends at the next tick event. -/
def GroupDispatch.guardEnds (d : GroupDispatch) : Bool := d.guard && decide (d.remaining ≤ 1)

/-- The Dispatch Unit at a tick event: the tick count, the guards, and one DISPATCH raise if any guard ends. -/
def State.dspTick (s : State) : State :=
  ({ s with dsp := { s.dsp with
      tickCount := s.dsp.tickCount + 1#32
      groups := Table.tabulate {} Config.numGroups (fun g => (s.dsp.group g).tick) } }).raiseDispatchIf
    ((List.range Config.numGroups).any (fun g => (s.dsp.group g).guardEnds))

/-! ### The dispatch job's start (R146) -/

/-- The start snapshot: published targets are copied into previous published, and the job holds the nonzero fractions
and the groups in GUARD. -/
def State.startDispatch (s : State) : State :=
  let groups := Table.tabulate {} Config.numGroups
    (fun g => { s.dsp.group g with previous := (s.dsp.group g).published })
  let fractions := (s.acu.records.filter (fun r => decide (r.current ≠ 0))).map (fun r => (r.product, r.current))
  let guarded := (List.range Config.numGroups).filter (fun g => (s.dsp.group g).guard)
  { s with dsp := { s.dsp with groups := groups }, eng := { s.eng with job := some (.dispatch fractions guarded) } }

/-! ### Group targets and publication (R147, R148) -/

/-- The signed sum N_g over the products with a nonzero fraction and their records in delivery (R147). -/
def State.groupSum (s : State) (fractions : List (Nat × Int)) (g : Nat) : Int :=
  (fractions.map (fun f =>
    ((s.deliverySet.filter (fun r => r.product == f.1)).map (fun r => (r.shareIn g : Int) * f.2)).sum)).sum

/-- A sum in per mille divided by 1000 and rounded to nearest, halves away from zero (R147). -/
def roundThousand (n : Int) : Int :=
  if 0 ≤ n then ((n.natAbs + 500) / 1000 : Nat) else -((n.natAbs + 500) / 1000 : Nat)

/-- The computed target C_g (R147). -/
def State.computedTarget (s : State) (fractions : List (Nat × Int)) (g : Nat) : Int :=
  clampInt (-32768) 32767 (roundThousand (s.groupSum fractions g))

/-- The contributing-product mask of a group (R147). -/
def State.contributors (s : State) (fractions : List (Nat × Int)) (g : Nat) : List Nat :=
  (fractions.map (·.1)).filter (fun p => s.deliverySet.any (fun r => r.product == p && r.hasShare g))

/-- Whether a computed target reverses a published one directly, with guard ticks to wait (R148). -/
def reverses (previous computed : Int) (guardTicks : Nat) : Bool :=
  decide (0 < guardTicks) && (decide (previous < 0 ∧ 0 < computed) || decide (computed < 0 ∧ 0 < previous))

/-- The published target and guard of a group at the commit (R148). A group found in GUARD at the start publishes 0
and keeps its guard as the countdown holds it. -/
def GroupDispatch.publish (d : GroupDispatch) (computed : Int) (guarded : Bool) (guardTicks : Nat) : GroupDispatch :=
  if guarded then { d with computed := computed, published := 0 }
  else if reverses d.previous computed guardTicks then
    { d with computed := computed, published := 0, guard := true, remaining := guardTicks }
  else { d with computed := computed, published := computed }

/-! ### The site split (R150, R151) -/

/-- The members of a group and their capability in a target's direction, ascending (R150). -/
def Intake.capabilities (t : Intake) (g : Nat) (target : Int) : List (Nat × Nat) :=
  (freshMembers t.sites g).map (fun e => (e.1, if 0 < target then e.2.pUp else e.2.pDn))

/-- CapTot: the members' capability in a target's direction. -/
def capTotal (caps : List (Nat × Nat)) : Nat := (caps.map (·.2)).sum

/-- A magnitude with the sign of a target. -/
def signed (target : Int) (x : Nat) : Int := if 0 < target then (x : Int) else -(x : Int)

/-- A group's target divided among its members (R150). -/
def splitTarget (target : Int) (caps : List (Nat × Nat)) : List (Nat × Int) :=
  if target = 0 then []
  else if capTotal caps ≤ target.natAbs then caps.map (fun c => (c.1, signed target c.2))
  else (largestRemainder target.natAbs (capTotal caps) caps).map (fun c => (c.1, signed target c.2))

/-- A group's dispatch record after the commit (R147, R148, R151, R152). -/
def State.committedGroup (s : State) (fractions : List (Nat × Int)) (guarded : List Nat) (g : Nat) : GroupDispatch :=
  let d := (s.dsp.group g).publish (s.computedTarget fractions g) (decide (g ∈ guarded)) s.acu.guardTicks
  { d with
    mask := s.contributors fractions g
    short := decide (capTotal (s.tiu.capabilities g d.published) < d.published.natAbs)
    lastChange := if d.published ≠ d.previous then s.dsp.tickCount else d.lastChange }

/-- The setpoints of every member of a group with a nonzero target (R150); every other site's is 0. -/
def State.siteTargets (s : State) (groups : Table GroupDispatch) : List (Nat × Int) :=
  (List.range Config.numGroups).flatMap (fun g =>
    let p := (Table.get ({} : GroupDispatch) groups g).published
    splitTarget p (s.tiu.capabilities g p))

/-! ### The commit (R152) -/

/-- Adds a site to the dirty set, ascending and without duplicates. -/
def addDirty (dirty : List Nat) (i : Nat) : List Nat :=
  if i ∈ dirty then dirty else insertBy (fun a b => decide (a < b)) i dirty

/-- Writes the new setpoints (R152): if any differs, the dispatch sequence advances, and each site that differs takes
its setpoint with the new sequence and joins the dirty set. -/
def DispatchUnit.commitSetpoints (d : DispatchUnit) (targets : List (Nat × Int)) : DispatchUnit :=
  let changed := (List.range Config.numSites).filter (fun i =>
    decide (Table.get 0 targets i ≠ (d.setpoint i).value))
  if changed = [] then d
  else
    let q := d.sequence + 1#16
    { d with
      sequence := q
      setpoints := changed.foldl (fun t i => Table.set {} t i ⟨Table.get 0 targets i, q⟩) d.setpoints
      dirty := changed.foldl addDirty d.dirty }

/-- The dispatch job's commit (R147 to R152), one event. -/
def State.dispatchCommit (s : State) (fractions : List (Nat × Int)) (guarded : List Nat) : State :=
  let groups := Table.tabulate {} Config.numGroups (s.committedGroup fractions guarded)
  let d := { s.dsp with groups := groups }.commitSetpoints (s.siteTargets groups)
  let newlyShort := (List.range Config.numGroups).any (fun g =>
    (Table.get ({} : GroupDispatch) groups g).short && !(s.dsp.group g).short)
  ({ s with dsp := d }.raiseIf newlyShort .dispatchShort).raiseIf
    (s.dsp.dirty.isEmpty && !d.dirty.isEmpty) .setpointsChanged

/-! ### Reading setpoints (10.6) -/

/-- A site's row in a reading reply. -/
def DispatchUnit.row (d : DispatchUnit) (i : Nat) : SetpointRow := ⟨i, d.setpoint i, decide (i ∈ d.dirty)⟩

/-- SETPOINT_CHANGES (R153): up to 32 of the lowest sites leave the dirty set. -/
def setpointChangesWork (s : State) : Answer :=
  let rest := s.dsp.dirty.drop 32
  ({ s with dsp := { s.dsp with dirty := rest } }, .ok,
    .setpointChanges s.dsp.sequence ((s.dsp.dirty.take 32).map s.dsp.row) (!rest.isEmpty))

/-- READ_SETPOINTS (R154). -/
def readSetpointsWork (first : Half) (count : Byte) (s : State) : Answer :=
  let f := first.toNat
  let n := count.toNat
  if f > 4095 ∨ n = 0 ∨ n > 64 then refuse s .range
  else (s, .ok, .setpoints s.dsp.sequence f ((List.range' f (min n (Config.numSites - f))).map s.dsp.row))

end Sys2Proof.Machine
end

