-- ==== Sys2Proof/Machine/Verification.lean ====
section
/-! DEFINITION. The Delivery Verification Unit (chapter 11): which groups are examined, the shortfall test, the counts
and the capture, and its two requests; with the stages of the rollup job that use it (R61, R62). -/

namespace Sys2Proof.Machine

/-- Whether a product has an activation record in HOLDING. -/
def Acu.holding (a : Acu) (p : Nat) : Bool :=
  match a.record p with
  | some r => r.state == .holding
  | none => false

/-- The largest verify delay among products (R157). -/
def State.verifyDelay (s : State) (mask : List Nat) : Nat := (mask.map (fun p => (s.product p).verifyDelay)).foldl max 0

/-- The smallest shortfall tolerance among products (R158). A nonzero target has at least one (log 17). -/
def State.tolerance (s : State) : List Nat → Nat
  | [] => 0
  | p :: t => (t.map (fun q => (s.product q).tolerance)).foldl min (s.product p).tolerance

/-- Whether a group is examined (R157). -/
def State.examined (s : State) (g : Nat) : Bool :=
  let d := s.dsp.group g
  decide (d.published ≠ 0) && !d.guard && d.mask.all s.acu.holding
    && decide (s.verifyDelay d.mask ≤ (s.dsp.tickCount - d.lastChange).toNat)

/-- The shortfall test (R158): a measured sum of the other sign or 0, or of too small a magnitude. -/
def isShort (published measured : Int) (tolerance : Nat) : Bool :=
  decide ((0 < published ∧ measured ≤ 0) ∨ (published < 0 ∧ 0 ≤ measured))
    || decide (measured.natAbs * 1000 < published.natAbs * (1000 - tolerance))

/-- The short groups of the verification snapshot, ascending (R157, R158). -/
def State.shortGroups (s : State) : List Shortfall :=
  ((List.range Config.numGroups).filter s.examined).filterMap (fun g =>
    let d := s.dsp.group g
    let m := (s.tiu.group g).measured
    let tol := s.tolerance d.mask
    if isShort d.published m tol then some ⟨g, d.published, m, d.mask, tol⟩ else none)

/-- The times a record of the delivery set is short: the short groups in which it has a share and whose mask names its
product (R159). -/
def Commitment.timesShort (r : Commitment) (shorts : List Shortfall) : Nat :=
  (shorts.filter (fun x => r.hasShare x.group && decide (r.product ∈ x.mask))).length

/-- Attribution of shortfalls to the records of the delivery set (R159). -/
def State.attribute (s : State) (shorts : List Shortfall) : State :=
  match s.eng.bookInterval with
  | none => s
  | some b =>
    { s with cmt := { s.cmt with records := s.cmt.records.map (fun r =>
        if r.state = .awarded ∧ r.covers b = true then
          { r with shortfalls := saturate 65535 (r.shortfalls + r.timesShort shorts) }
        else r) } }

/-- The verification write (R160): the first shortfall fills an empty capture, every other one is counted, and
SHORTFALL is raised once if there is any. -/
def State.verificationWrite (s : State) (shorts : List Shortfall) : State :=
  match shorts with
  | [] => s
  | x :: t =>
    let v : Verifier :=
      match s.dvu.capture with
      | some _ => { s.dvu with further := saturate 65535 (s.dvu.further + shorts.length) }
      | none =>
        { capture := some ⟨s.mtu.clock, s.mtu.second, s.mtu.phase, x⟩
          further := saturate 65535 (s.dvu.further + t.length) }
    { s with dvu := v }.raise .shortfall

/-- READ_CAPTURE (R161). -/
def readCaptureWork (s : State) : Answer := (s, .ok, .capture s.dvu)

/-- CLEAR_CAPTURE (R162): the reply carries what it clears. -/
def clearCaptureWork (s : State) : Answer := ({ s with dvu := {} }, .ok, .capture s.dvu)

/-- The near-window rescan of a rollup (R61). -/
def State.rollupRescan (s : State) : State :=
  match s.eng.bookInterval with
  | none => s
  | some b => s.rescan (pairsOver b (s.eng.settings.near + 1))

/-- Whether a published target or a setpoint is nonzero (R62). -/
def DispatchUnit.active (d : DispatchUnit) : Bool :=
  d.groups.any (fun e => decide (e.2.published ≠ 0)) || d.setpoints.any (fun e => decide (e.2.value ≠ 0))

/-- The next event of a rollup job at a stage, with the stage it then stands at; `none` ends it (R55). -/
def State.rollupEvent (s : State) : RollupStage → State × Option RollupStage
  | .snapshot => (s, some (.figures s.rollupSnapshot))
  | .figures n => (s.rollupFigures n, some .rescan)
  | .rescan => (s.rollupRescan, some .verify)
  | .verify => (s.attribute s.shortGroups, some (.write s.shortGroups))
  | .write shorts => (s.verificationWrite shorts, some .trigger)
  | .trigger => (s.raiseDispatchIf s.dsp.active, none)

end Sys2Proof.Machine
end

