-- ==== Sys2Proof/Machine/MarketTime.lean ====
section
/-! DEFINITION. The Market Time Unit (chapter 1): ticks, second marks, boundaries, pulses, the time states and
TIME_SET; and the tick event as the part's blocks take it. -/

namespace Sys2Proof.Machine

/-- Whether pulses are judged: a calendar runs in ACQUIRING with none pending, LOCKED or HOLDOVER (R4). -/
def Mtu.judging (m : Mtu) : Bool :=
  match m.timeState with
  | .acquiring => m.calendar.isNone
  | .locked | .holdover => true
  | .unset | .failed => false

/-! ### Second marks and boundaries (R2, R13) -/

/-- Whether the second in interval wraps at the next second mark (R13). -/
def State.wraps (s : State) : Bool := decide (s.eng.settings.length ≤ s.mtu.second + 1)

/-- The boundary event (R13): c increases by 1 and HOUSEKEEPING is raised, unless c is at its last value. -/
def State.boundary (s : State) : State :=
  let t := { s with mtu := { s.mtu with second := 0 } }
  if s.mtu.clock = Config.lastInterval then t
  else { t with mtu := { t.mtu with clock := t.mtu.clock + 1 } }.raiseHousekeeping

/-- The second in interval at a second mark while a calendar runs (R13). -/
def State.advanceSecond (s : State) : State :=
  if s.wraps then s.boundary else { s with mtu := { s.mtu with second := s.mtu.second + 1 } }

/-- What every second mark does: run seconds, and the periodic timer that counts the same marks (R2, R54). -/
def State.countSecond (s : State) : State :=
  { s with mtu := { s.mtu with runSeconds := s.mtu.runSeconds + 1#32 } }.periodicTimer

/-- A second mark other than a starting pulse (R2). -/
def State.secondMark (s : State) : State :=
  if s.mtu.running then s.countSecond.advanceSecond else s.countSecond

/-! ### Pulses (R4 to R8) -/

/-- A missing pulse (R4, R6, R8): the window closes and the second is judged. -/
def State.missPulse (s : State) : State :=
  let s := { s with mtu := { s.mtu with window := false } }
  match s.mtu.timeState with
  | .acquiring => { s with mtu := { s.mtu with goodRun := 0 } }
  | .locked => { s with mtu := { s.mtu with goodRun := 0, holdover := 0 } }.enterTimeState .holdover
  | .holdover =>
    let t := { s with mtu := { s.mtu with goodRun := 0, holdover := s.mtu.holdover + 1 } }
    if s.eng.settings.holdoverLimit ≤ s.mtu.holdover + 1 then t.enterTimeState .failed else t
  | .unset | .failed => s

/-- A good pulse's effect on the run and the time state (R6). -/
def State.countGood (s : State) : State :=
  match s.mtu.timeState with
  | .acquiring | .holdover =>
    if 3 ≤ s.mtu.goodRun + 1 then { s with mtu := { s.mtu with goodRun := 3 } }.enterTimeState .locked
    else { s with mtu := { s.mtu with goodRun := s.mtu.goodRun + 1 } }
  | .unset | .locked | .failed => s

/-- A stray pulse (R6, R7). -/
def State.strayPulse (s : State) : State :=
  let m := { s.mtu with faults := saturate 255 (s.mtu.faults + 1) }
  { s with mtu := if s.mtu.timeState = .locked then m else { m with goodRun := 0 } }

/-! ### The tick event (R1) -/

/-- The MTU's own work at a tick event: the judgement at the end of tick 1, the second mark at the end of tick 9, and
the window that opens with tick 9 (R1, R2, R4). -/
def State.mtuTick (s : State) : State :=
  let s := if s.mtu.phase = 1 ∧ s.mtu.window = true then s.missPulse else s
  if s.mtu.phase = 9 then { s with mtu := { s.mtu with phase := 0 } }.secondMark
  else
    { s with mtu := { s.mtu with
      phase := s.mtu.phase + 1
      window := s.mtu.window || (decide (s.mtu.phase = 8) && s.mtu.judging) } }

/-- A tick event: the MTU's work, then its delivery to the ACU and the Dispatch Unit (R1). -/
def State.tick (s : State) : State := s.mtuTick.acuTick.dspTick

/-- A good pulse (R5): in tick 9 it ends that tick and is the second mark; in tick 0 or 1 it restarts tick 0. -/
def State.goodPulse (s : State) : State :=
  let t := { s with mtu := { s.mtu with window := false, phase := 0 } }
  let u := if s.mtu.phase = 9 then t.secondMark.acuTick.dspTick else t
  u.countGood

/-! ### The calendar (R10, R12) -/

/-- The starting pulse of a pending calendar (R12). It is a second mark, and no block takes it as a tick event
(log 11). -/
def State.startingPulse (s : State) (n : PendingCalendar) : State :=
  if n.restart = true ∧ n.interval < s.mtu.clock then
    { s with mtu := { s.mtu with calendar := none } }.enterTimeState .failed
  else
    let t := { s with mtu := { s.mtu with
      phase := 0
      window := false
      second := n.second
      goodRun := 1
      calendar := none
      clock := n.interval
      origin := if n.restart then s.mtu.origin else n.interval } }.countSecond
    if n.restart = true ∧ n.interval = s.mtu.clock then t else t.raiseHousekeeping

/-- A PPS pulse (TABLE 1(b), R4, R12). -/
def State.ppsPulse (s : State) : State :=
  match s.mtu.timeState with
  | .unset | .failed => s
  | .acquiring | .locked | .holdover =>
    match s.mtu.timeState == .acquiring, s.mtu.calendar with
    | true, some n => s.startingPulse n
    | _, _ => if s.mtu.window then s.goodPulse else s.strayPulse

/-- TIME_SET's checks in their order (R10). -/
def timeSetCheck (n sec : Nat) (s : State) : Option Status :=
  if s.mtu.timeState ≠ .unset ∧ s.mtu.timeState ≠ .failed then some .wrongState
  else if s.eng.settings.length ≤ sec then some .range
  else if n > Config.lastInterval then some .range
  else if s.mtu.timeState = .failed ∧ n < s.mtu.clock then some .range
  else none

/-- TIME_SET (R10): records the pending calendar and enters ACQUIRING. -/
def timeSetWork (interval : Word) (second : Half) (s : State) : Answer :=
  match timeSetCheck interval.toNat second.toNat s with
  | some c => refuse s c
  | none =>
    let c : PendingCalendar := ⟨interval.toNat, second.toNat, s.mtu.timeState == .failed⟩
    ({ s with mtu := { s.mtu with calendar := some c } }.enterTimeState .acquiring, .ok, .empty)

end Sys2Proof.Machine
end

