-- ==== Sys2Proof/Machine/Flags.lean ====
section
/-! DEFINITION. The flags the part shows: the port status byte, the pending notices, ATTN, the class in progress and
READ_STATUS's report (12.1, 12.5, 12.6, 6.8, 12.8); with the three requests the Port Interface works itself. -/

namespace Sys2Proof.Machine

/-- A notice kind's level (TABLE 12(e)), by code. -/
def noticeLevel (code : Nat) : Nat := [6, 7, 6, 5, 5, 5, 4, 4, 3, 2, 2, 1].getD code 0

/-- The pending kinds of a port, ascending, with their counts (R169, R170). -/
def PortState.pendingNotices (x : PortState) : List (Nat × Nat) :=
  ((List.range 12).map (fun k => (k, Table.get 0 x.notices k))).filter (fun e => decide (0 < e.2))

/-- The port status byte: REPLY_WAITING, NOTICE_PENDING, LAST_WRITE_REFUSED in bits 0 to 2 (TABLE 12(a) note 2). -/
def PortState.statusByte (x : PortState) : Byte :=
  BitVec.ofNat 8 ((if x.replies.isEmpty then 0 else 1) + (if x.pendingNotices.isEmpty then 0 else 2)
    + (if x.lastWriteRefused then 4 else 0))

/-- Whether a port's state asserts ATTN (R171). -/
def PortState.wantsAttention (x : PortState) : Bool :=
  !x.replies.isEmpty
    || x.pendingNotices.any (fun e => x.mask.getLsbD e.1 && decide (x.threshold ≤ noticeLevel e.1))

/-- A port's ATTN output: low while a device reset lasts or power is absent (R171, R174). -/
def State.attn (s : State) (p : Port) : Bool := s.supply == .running && (s.port p).wantsAttention

/-- The rank of the class in progress, 0 for NONE (R173, TABLE 6(b)). -/
def Engine.classInProgress (e : Engine) : Nat :=
  match e.job with
  | none => 0
  | some (.order _) | some (.trip _) => 1
  | some (.dispatch _ _) => 2
  | some (.rollover _) => 3
  | some (.rollup _) => 4
  | some (.fleet _) => 5
  | some (.book _) => 6
  | some (.admission _) => 7

/-- READ_STATUS's report, formed at one event (R173, R19, R94). -/
def State.statusReport (s : State) : StatusReport :=
  { cause := s.cause
    timeState := s.mtu.timeState
    clock := s.mtu.clock
    second := s.mtu.second
    runSeconds := s.mtu.runSeconds
    faults := s.mtu.faults
    holdover := s.mtu.holdover
    classInProgress := s.eng.classInProgress
    dispatchFlag := s.eng.dispatch.flag
    housekeepingFlag := s.eng.housekeeping.flag
    rollupFlag := s.eng.rollup.flag
    activationMerges := s.eng.activationMerges
    dispatchMerges := s.eng.dispatch.merges
    housekeepingMerges := s.eng.housekeeping.merges
    rollupMerges := s.eng.rollup.merges
    abandonTotal := s.eng.abandonTotal
    copy := s.eng.copy
    captureFull := s.dvu.capture.isSome }

/-- READ_STATUS (R173). -/
def readStatusWork (s : State) : Answer := (s, .ok, .status s.statusReport)

/-- READ_NOTICES (R170): reports the port's pending kinds and clears its counts. -/
def readNoticesWork (p : Port) (s : State) : Answer :=
  (s.withPort p { s.port p with notices := [] }, .ok, .notices (s.port p).pendingNotices)

/-- SET_ATTENTION (R171): bits 12 to 15 of the mask are ignored, a threshold above 7 is taken as 7. -/
def setAttentionWork (p : Port) (mask : Half) (threshold : Byte) (s : State) : Answer :=
  let m : BitVec 12 := mask.setWidth 12
  let t := min 7 threshold.toNat
  (s.withPort p { s.port p with mask := m, threshold := t }, .ok, .attention m t)

end Sys2Proof.Machine
end

