-- ==== Sys2Proof/Machine/JobEngine.lean ====
section
/-! DEFINITION. The Allocation Engine (chapter 6): the choice and start of the next job, the events of the job in
progress, its end, and the acceptance of requests. -/

namespace Sys2Proof.Machine

/-! ### Choosing and starting (R85) -/

/-- Whether a class holds work (R85). -/
def Engine.hasWork (e : Engine) : Bool :=
  !e.activation.isEmpty || e.dispatch.flag || e.housekeeping.flag || e.rollup.flag
    || !e.fleet.isEmpty || !e.book.isEmpty || !e.admission.isEmpty

/-- Starts the job of the ADMISSION entry at the head: its computing phase fills the scratch (R88). -/
def State.startAdmission (s : State) (x : Entry) : State :=
  { s with eng := { s.eng with
      job := some (.admission ⟨x, false⟩), scratch := some (admissionScratch x.request s) } }

/-- The job that an ACTIVATION entry brings. -/
def ActEntry.job : ActEntry → Job
  | .order x => .order ⟨x, false⟩
  | .trip e => .trip e

/-- Starts the job of the highest-ranked class that holds work: the entry leaves its queue, or the flag is cleared
(R80, R81, R84, R85). A rollup job starts before its snapshot, so that a TELEMETRY taken between the two sets the flag
again and is in the snapshot (R51, log 4). -/
def State.startNext (s : State) : State :=
  let e := s.eng
  match e.activation with
  | a :: t => { s with eng := { e with activation := t, job := some a.job } }
  | [] =>
    if e.dispatch.flag then
      State.startDispatch { s with eng := { e with dispatch := { e.dispatch with flag := false } } }
    else if e.housekeeping.flag then
      { s with eng := { e with
        housekeeping := { e.housekeeping with flag := false }, job := some (.rollover .between) } }
    else if e.rollup.flag then
      { s with eng := { e with
        rollup := { e.rollup with flag := false }, job := some (.rollup .snapshot) } }
    else
      match e.fleet, e.book, e.admission with
      | x :: t, _, _ => { s with eng := { e with fleet := t, job := some (.fleet ⟨x, false⟩) } }
      | [], x :: t, _ => { s with eng := { e with book := t, job := some (.book ⟨x, false⟩) } }
      | [], [], x :: t => State.startAdmission { s with eng := { e with admission := t } } x
      | [], [], [] => s

/-- An idle engine starts the next job at once (R85). -/
def State.choose (s : State) : State := if s.eng.job.isNone then s.startNext else s

/-! ### The events of a job (R79, R87) -/

/-- The work of a request that an engine job does whole (TABLE 6(a)); no other request reaches these classes. -/
def requestWork (r : Request) (s : State) : Answer :=
  match r with
  | .activate a => activateWork a s
  | .deactivate p => deactivateWork p s
  | .forecast a => forecastWork a s
  | .siteSet a => siteSetWork a s
  | .groupSet a => groupSetWork a s
  | .curveSet a => curveSetWork a s
  | .award a => awardWork a s
  | .release a => releaseWork a s
  | .productSet a => productSetWork a s
  | .productRead p => productReadWork p s
  | .configureMarket a => configureMarketWork a s
  | .readCommitment i => readCommitmentWork i s
  | .listCommitments a => listCommitmentsWork a s
  | .readDeficits p => readDeficitsWork p s
  | .readGroup g => readGroupWork g s
  | .readSettlement => readSettlementWork s
  | _ => refuse s .malformed

/-- The commit of an ADMISSION job (R88). -/
def admissionWork (r : Request) (s : State) : Answer :=
  match r, s.eng.scratch with
  | .hold a, some x => holdCommit a x s
  | .queryHeadroom a, some x => queryCommit a x s
  | _, _ => refuse s .malformed

/-- The copy READ_STATUS reads (R173). -/
def State.statusCopy (s : State) : StatusCopy :=
  { book := s.eng.bookInterval.getD 0
    records := s.cmt.records.length
    settlements := s.cmt.queue.length
    deficits := s.cgr.deficits.length
    overflow := s.cgr.overflow }

/-- A job's end: the engine is idle, the scratch is empty, and the status copy is taken (R85, R88, R173). -/
def State.endJob (s : State) : State :=
  { s with eng := { s.eng with job := none, scratch := none, copy := s.statusCopy } }

/-- The reply of a request (R167). -/
def Entry.reply (x : Entry) (c : Status) (b : ReplyBody) : Reply := ⟨x.slot, requestCode x.request, x.tag, c, b⟩

/-- A request job's end: its reply joins its port's completed replies, unless a link reset discarded it (R87, R92). -/
def State.endRequest (r : Running) (a : Answer) : State :=
  if r.orphan then a.1.endJob else (a.1.complete r.entry.port (r.entry.reply a.2.1 a.2.2)).endJob

/-- The job in progress, at a further stage or at its end. -/
def State.continueWith (s : State) (j : Option Job) : State :=
  match j with
  | some j => { s with eng := { s.eng with job := some j } }
  | none => s.endJob

/-- The next event of the job in progress; the engine is left idle when it ends the job. -/
def State.jobEvent (s : State) : State :=
  match s.eng.job with
  | none => s
  | some (.order r) => State.endRequest r (requestWork r.entry.request s)
  | some (.trip e) => (tripWork e s).endJob
  | some (.dispatch f g) => (s.dispatchCommit f g).endJob
  | some (.rollover st) => (s.rolloverEvent st).1.continueWith ((s.rolloverEvent st).2.map .rollover)
  | some (.rollup st) => (s.rollupEvent st).1.continueWith ((s.rollupEvent st).2.map .rollup)
  | some (.fleet r) => State.endRequest r (requestWork r.entry.request s)
  | some (.book r) => State.endRequest r (requestWork r.entry.request s)
  | some (.admission r) => State.endRequest r (admissionWork r.entry.request s)

/-- Events of the job in progress until it ends, at most `n`. -/
def State.jobEvents : Nat → State → State
  | 0, s => s
  | n + 1, s => if s.eng.job.isNone then s else s.jobEvent.jobEvents n

/-- Enough events for what is left of the job in progress: a ROLLOVER job works every boundary up to c, each with the
stages of R103 and an order for each unsupported activation. -/
def State.eventsLeft (s : State) : Nat :=
  match s.eng.job with
  | some (.rollover st) =>
    (s.mtu.clock - s.eng.bookInterval.getD s.mtu.origin + 2) * (s.acu.records.length + 12)
      + (match st with
         | .intervalEnd _ ps => ps.length
         | _ => 0)
  | some (.rollup _) => 6
  | _ => 1

/-- The rest of the job in progress, as one indivisible step. -/
def State.finishJob (s : State) : State := s.jobEvents s.eventsLeft

/-! ### Acceptance (R165, TABLE 6(a)) -/

/-- The work of a request taken by its block on acceptance, `none` for a request of an engine class. -/
def acceptedWork (p : Port) (r : Request) (s : State) : Option Answer :=
  match r with
  | .timeSet n sec => some (timeSetWork n sec s)
  | .telemetry rs => some (telemetryWork rs s)
  | .configureFleet l q => some (configureFleetWork l q s)
  | .armTrip l q => some (armTripWork l q s)
  | .configureGrid g q => some (configureGridWork g q s)
  | .readActivations => some (readActivationsWork s)
  | .setpointChanges => some (setpointChangesWork s)
  | .readSetpoints f n => some (readSetpointsWork f n s)
  | .readCapture => some (readCaptureWork s)
  | .clearCapture => some (clearCaptureWork s)
  | .readStatus => some (readStatusWork s)
  | .readNotices => some (readNoticesWork p s)
  | .setAttention m t => some (setAttentionWork p m t s)
  | _ => none

/-- An engine request joins the tail of its class (R81, TABLE 6(a)). -/
def State.enqueue (s : State) (x : Entry) : State :=
  match x.request with
  | .activate _ | .deactivate _ => s.joinActivation (.order x)
  | .forecast _ | .siteSet _ | .groupSet _ | .curveSet _ =>
    { s with eng := { s.eng with fleet := s.eng.fleet ++ [x] } }
  | .hold _ | .queryHeadroom _ => { s with eng := { s.eng with admission := s.eng.admission ++ [x] } }
  | _ => { s with eng := { s.eng with book := s.eng.book ++ [x] } }

/-- An accepted frame goes to the block that works its kind (R165): worked and answered at this event, or queued. -/
def State.accept (s : State) (p : Port) (slot : Nat) (tag : Byte) (r : Request) : State :=
  match acceptedWork p r s with
  | some a => a.1.complete p ⟨slot, requestCode r, tag, a.2.1, a.2.2⟩
  | none => s.enqueue ⟨p, slot, tag, r, 0⟩

end Sys2Proof.Machine
end

