-- ==== Sys2Proof/Machine/Transfers.lean ====
section
/-! DEFINITION. Transfers and resets (12.1 to 12.3, 12.7, 12.9). -/

namespace Sys2Proof.Machine

/-! ### WRITE (R165, R166) -/

/-- The lowest free slot of a port, if any (log 20). -/
def PortState.freeSlot (x : PortState) : Option Nat :=
  (List.range Config.numSlots).find? (fun k => (Table.get none x.slots k).isNone)

/-- A new transfer on a port: a READ still open has ended early (R167), and MISO carries don't-care bytes. -/
def PortState.newTransfer (x : PortState) : PortState := { x with reading := none, miso := .dontCare }

/-- A WRITE takes a slot, which holds its frame; LAST_WRITE_REFUSED is cleared (R165). -/
def PortState.takeSlot (x : PortState) (k : Nat) (bytes : List Byte) : PortState :=
  { x.newTransfer with
    slots := Table.set none x.slots k (some (bytes.take (4 + Config.maxBody))), lastWriteRefused := false }

/-- The end of a WRITE, with the bytes that followed its type byte (R165, R166). -/
def State.write (s : State) (p : Port) (bytes : List Byte) : State :=
  match (s.port p).freeSlot with
  | none => s.withPort p { (s.port p).newTransfer with lastWriteRefused := true }
  | some k =>
    let t := s.withPort p ((s.port p).takeSlot k bytes)
    match checkFrame p bytes with
    | .accepted tag r => t.accept p k tag r
    | .refused kind tag c => t.complete p ⟨k, kind, tag, c, .empty⟩

/-- A request presented on a port: the WRITE of its frame (log 5). -/
def State.present (s : State) (p : Port) (tag : Byte) (r : Request) : State := s.write p (requestFrame tag r)

/-! ### READ (R167) -/

/-- The bytes a READ can clock out after its type byte: the status byte, then the reply frame or a zero length. -/
def Reading.bytes (r : Reading) : List Byte :=
  r.status :: (match r.reply with
    | some x => replyFrame x
    | none => [0#8, 0#8])

/-- The type byte of a READ: the status byte is formed and the oldest completed reply chosen. -/
def PortState.beginRead (x : PortState) : PortState :=
  { x with reading := some ⟨x.statusByte, x.replies.head?⟩, miso := .dontCare }

/-- The end of a READ: a chosen reply of which every byte was clocked out leaves the queue, and its slot is freed. -/
def PortState.endRead (x : PortState) (clocked : Nat) : PortState :=
  match x.reading with
  | none => x
  | some r =>
    let y := { x with reading := none, miso := .bytes (r.bytes.take clocked) }
    match r.reply with
    | none => y
    | some z =>
      if r.bytes.length ≤ clocked then
        { y with replies := y.replies.tail, slots := Table.set none y.slots z.slot none }
      else y

/-- A READ transfer, or one of its two events. -/
def PortState.readTransfer (x : PortState) : ReadPart → PortState
  | .whole n => x.beginRead.endRead n
  | .typeByte => x.beginRead
  | .finish n => x.endRead n

/-! ### LINK_RESET (R172, R92) -/

/-- A job of the port that is running goes on as an orphan (R92). -/
def Job.orphaned (p : Port) : Job → Job
  | .order r => .order (if r.entry.port = p then { r with orphan := true } else r)
  | .fleet r => .fleet (if r.entry.port = p then { r with orphan := true } else r)
  | .book r => .book (if r.entry.port = p then { r with orphan := true } else r)
  | .admission r => .admission (if r.entry.port = p then { r with orphan := true } else r)
  | j => j

/-- The port an ACTIVATION entry came from; a trip event has none. -/
def ActEntry.fromPort (p : Port) : ActEntry → Bool
  | .order x => x.port == p
  | .trip _ => false

/-- The engine at a link reset: the port's entries whose jobs have not started are removed (R92). -/
def Engine.linkReset (e : Engine) (p : Port) : Engine :=
  { e with
    job := e.job.map (Job.orphaned p)
    activation := e.activation.filter (fun a => !a.fromPort p)
    fleet := e.fleet.filter (fun x => x.port != p)
    book := e.book.filter (fun x => x.port != p)
    admission := e.admission.filter (fun x => x.port != p) }

/-- A link reset of a port (R172). -/
def State.linkReset (s : State) (p : Port) : State :=
  ({ s with eng := s.eng.linkReset p }).withPort p { miso := .dontCare }

/-! ### Device reset and power (R174, R93) -/

/-- What is lost when a device reset begins or power fails: the job, every waiting request and event, transfers in
progress. All else is unseen until the release gives it its reset value (log 14). -/
def State.lose (s : State) : State :=
  { s with
    eng := { s.eng with job := none, scratch := none, activation := [], fleet := [], book := [], admission := [] }
    market := { s.market with reading := none }
    grid := { s.grid with reading := none }
    fleet := { s.fleet with reading := none } }

/-- A device reset begins (R174): power is applied, or RESETn falls while power is present. A fall during a reset does
not change the cause; without power it is not seen (log 15). -/
def State.beginReset (s : State) : ResetCause → State
  | .powerOn => { s.lose with supply := .held, cause := .powerOn }
  | .pin =>
    match s.supply with
    | .running => { s.lose with supply := .held, cause := .pin }
    | .held | .off => s

/-- The release of a device reset (R174): every block takes its reset values. The cause and the levels of the trip
lines stand (R140), and the queue of commands is not the part's. -/
def State.release (s : State) : State :=
  match s.supply with
  | .held =>
    { State.reset with
      cause := s.cause
      acu := { State.reset.acu with
        uft := { State.reset.acu.uft with asserted := s.acu.uft.asserted }
        oft := { State.reset.acu.oft with asserted := s.acu.oft.asserted } }
      pending := s.pending }
  | .running | .off => s

/-- Power fails (R93). -/
def State.losePower (s : State) : State := { s.lose with supply := .off }

/-! ### Commands of a running part -/

/-- An event of a running part, after which an idle engine starts its next job (R85). While a device reset lasts, or
without power, nothing is worked (R174). -/
def State.act (s : State) (f : State → State) : State :=
  match s.supply with
  | .running => (f s).choose
  | .held | .off => s

/-- A transfer, which while RESETn is held low is ignored, its MISO carrying don't-care bytes (R164). -/
def State.transfer (s : State) (p : Port) (f : State → State) : State :=
  match s.supply with
  | .running => (f s).choose
  | .held => s.withPort p { s.port p with miso := .dontCare }
  | .off => s

/-- Whether the job in progress works a request of a kind. -/
def Engine.works (e : Engine) (kind : Byte) : Bool :=
  match e.job with
  | some (.order r) | some (.fleet r) | some (.book r) | some (.admission r) => requestCode r.entry.request == kind
  | _ => false

/-- A row whose request the engine works (log 5). Presented to a free engine, the request is worked to its reply in
this one step; to a busy one, it waits in its class. In the other form the job of the row's kind in progress, if there is
one, is worked to its end. -/
def State.jobRow {α : Type} (s : State) (kind : Byte) (make : α → Request) : JobForm α → State
  | .request p tag a =>
    let t := s.transfer p (fun s => s.present p tag (make a))
    if s.supply = .running ∧ s.eng.job = none ∧ s.eng.hasWork = false then t.act State.finishJob else t
  | .job => s.act (fun s => if s.eng.works kind then s.finishJob else s)

/-- The job in progress, worked to its end or by one event. -/
def State.advance (s : State) : Extent → State
  | .whole => s.finishJob
  | .event => s.jobEvent

end Sys2Proof.Machine
end

