-- ==== Sys2Proof/Machine/EngineCommands.lean ====
section
/-! DEFINITION. The meanings of the rows that are jobs of the engine's trigger classes (chapters 4, 7, 10). A row whose
job is not the one in progress works nothing (log 4). -/

namespace Sys2Proof.Machine

/-- Whether the job in progress is a ROLLOVER. -/
def Engine.rollingOver (e : Engine) : Bool :=
  match e.job with
  | some (.rollover _) => true
  | _ => false

/-- Whether the job in progress is a rollup. -/
def Engine.rollingUp (e : Engine) : Bool :=
  match e.job with
  | some (.rollup _) => true
  | _ => false

/-- Whether the job in progress is a dispatch. -/
def Engine.dispatching (e : Engine) : Bool :=
  match e.job with
  | some (.dispatch _ _) => true
  | _ => false

/-- ROLLOVER (R103 to R108), whole or by its next event. -/
def execRollover (extent : Extent) (s : State) : Host.Outcome State Fault Refusal :=
  .next (s.act (fun s => if s.eng.rollingOver then s.advance extent else s))

/-- ROLLUP (R55 to R62, R157 to R160), whole or by its next event. -/
def execRollup (extent : Extent) (s : State) : Host.Outcome State Fault Refusal :=
  .next (s.act (fun s => if s.eng.rollingUp then s.advance extent else s))

/-- DISPATCH (R146 to R152): the commit of the job in progress. -/
def execDispatch (s : State) : Host.Outcome State Fault Refusal :=
  .next (s.act (fun s => if s.eng.dispatching then s.finishJob else s))

end Sys2Proof.Machine
end

