-- ==== Sys2Proof/Machine/FleetCommands.lean ====
section
/-! DEFINITION. The meanings of the fleet port's requests (chapters 3, 4, 5 and 10). -/

namespace Sys2Proof.Machine

/-- SITE_SET (R37, R38). -/
def execSiteSet (form : JobForm SiteArgs) (s : State) : Host.Outcome State Fault Refusal :=
  .next (s.jobRow 0x30#8 .siteSet form)

/-- GROUP_SET (R40, R41, R42). -/
def execGroupSet (form : JobForm GroupArgs) (s : State) : Host.Outcome State Fault Refusal :=
  .next (s.jobRow 0x31#8 .groupSet form)

/-- CURVE_SET (R43). -/
def execCurveSet (form : JobForm CurveArgs) (s : State) : Host.Outcome State Fault Refusal :=
  .next (s.jobRow 0x32#8 .curveSet form)

/-- TELEMETRY (R48 to R50). -/
def execTelemetry (port : Port) (tag : Byte) (reports : List Report) (s : State) : Host.Outcome State Fault Refusal :=
  .next (s.transfer port (fun s => s.present port tag (.telemetry reports)))

/-- FORECAST (R69). -/
def execForecast (form : JobForm ForecastBody) (s : State) : Host.Outcome State Fault Refusal :=
  .next (s.jobRow 0x34#8 .forecast form)

/-- CONFIGURE_FLEET (R52). -/
def execConfigureFleet (port : Port) (tag : Byte) (staleLimit rollupPeriod : Half) (s : State) :
    Host.Outcome State Fault Refusal :=
  .next (s.transfer port (fun s => s.present port tag (.configureFleet staleLimit rollupPeriod)))

/-- SETPOINT_CHANGES (R153). -/
def execSetpointChanges (port : Port) (tag : Byte) (s : State) : Host.Outcome State Fault Refusal :=
  .next (s.transfer port (fun s => s.present port tag .setpointChanges))

/-- READ_SETPOINTS (R154). -/
def execReadSetpoints (port : Port) (tag : Byte) (first : Half) (count : Byte) (s : State) :
    Host.Outcome State Fault Refusal :=
  .next (s.transfer port (fun s => s.present port tag (.readSetpoints first count)))

/-- READ_GROUP (R46). -/
def execReadGroup (form : JobForm Byte) (s : State) : Host.Outcome State Fault Refusal :=
  .next (s.jobRow 0x38#8 .readGroup form)

end Sys2Proof.Machine
end

