-- ==== Sys2Proof/Machine/GridCommands.lean ====
section
/-! DEFINITION. The meanings of the grid port's requests and of the trip job (chapters 9 and 11). -/

namespace Sys2Proof.Machine

/-- ACTIVATE (R131, R132). -/
def execActivate (form : JobForm ActivateArgs) (s : State) : Host.Outcome State Fault Refusal :=
  .next (s.jobRow 0x20#8 .activate form)

/-- DEACTIVATE (R133). -/
def execDeactivate (form : JobForm Byte) (s : State) : Host.Outcome State Fault Refusal :=
  .next (s.jobRow 0x21#8 .deactivate form)

/-- Whether the job in progress works a trip event. -/
def Engine.tripping (e : Engine) : Bool :=
  match e.job with
  | some (.trip _) => true
  | _ => false

/-- TRIP_JOB (R141). -/
def execTripJob (s : State) : Host.Outcome State Fault Refusal :=
  .next (s.act (fun s => if s.eng.tripping then s.finishJob else s))

/-- ARM_TRIP (R139). -/
def execArmTrip (port : Port) (tag line product : Byte) (s : State) : Host.Outcome State Fault Refusal :=
  .next (s.transfer port (fun s => s.present port tag (.armTrip line product)))

/-- CONFIGURE_GRID (R142). -/
def execConfigureGrid (port : Port) (tag guard qualification : Byte) (s : State) : Host.Outcome State Fault Refusal :=
  .next (s.transfer port (fun s => s.present port tag (.configureGrid guard qualification)))

/-- READ_ACTIVATIONS (R143). -/
def execReadActivations (port : Port) (tag : Byte) (s : State) : Host.Outcome State Fault Refusal :=
  .next (s.transfer port (fun s => s.present port tag .readActivations))

/-- READ_CAPTURE (R161). -/
def execReadCapture (port : Port) (tag : Byte) (s : State) : Host.Outcome State Fault Refusal :=
  .next (s.transfer port (fun s => s.present port tag .readCapture))

/-- CLEAR_CAPTURE (R162). -/
def execClearCapture (port : Port) (tag : Byte) (s : State) : Host.Outcome State Fault Refusal :=
  .next (s.transfer port (fun s => s.present port tag .clearCapture))

end Sys2Proof.Machine
end

