-- ==== Sys2Proof/Machine/MarketCommands.lean ====
section
/-! DEFINITION. The meanings of the market port's requests and of the readings that the market and grid ports share
(chapters 1, 2, 5, 7, 8). -/

namespace Sys2Proof.Machine

/-- TIME_SET (R10). -/
def execTimeSet (port : Port) (tag : Byte) (interval : Word) (second : Half) (s : State) :
    Host.Outcome State Fault Refusal :=
  .next (s.transfer port (fun s => s.present port tag (.timeSet interval second)))

/-- CONFIGURE_MARKET (R28, R29, R30). -/
def execConfigureMarket (form : JobForm MarketArgs) (s : State) : Host.Outcome State Fault Refusal :=
  .next (s.jobRow 0x02#8 .configureMarket form)

/-- PRODUCT_SET (R23, R24). -/
def execProductSet (form : JobForm ProductArgs) (s : State) : Host.Outcome State Fault Refusal :=
  .next (s.jobRow 0x03#8 .productSet form)

/-- PRODUCT_READ (R27). -/
def execProductRead (form : JobForm Byte) (s : State) : Host.Outcome State Fault Refusal :=
  .next (s.jobRow 0x10#8 .productRead form)

/-- HOLD (R113 to R121). -/
def execHold (form : JobForm HoldArgs) (s : State) : Host.Outcome State Fault Refusal :=
  .next (s.jobRow 0x04#8 .hold form)

/-- QUERY_HEADROOM (R123, R124). -/
def execQueryHeadroom (form : JobForm QueryArgs) (s : State) : Host.Outcome State Fault Refusal :=
  .next (s.jobRow 0x07#8 .queryHeadroom form)

/-- AWARD (R125 to R128). -/
def execAward (form : JobForm AwardArgs) (s : State) : Host.Outcome State Fault Refusal :=
  .next (s.jobRow 0x05#8 .award form)

/-- RELEASE (R99). -/
def execRelease (form : JobForm ReleaseArgs) (s : State) : Host.Outcome State Fault Refusal :=
  .next (s.jobRow 0x06#8 .release form)

/-- READ_SETTLEMENT (R111). -/
def execReadSettlement (form : JobForm Unit) (s : State) : Host.Outcome State Fault Refusal :=
  .next (s.jobRow 0x08#8 (fun _ => .readSettlement) form)

/-- READ_COMMITMENT (R101). -/
def execReadCommitment (form : JobForm Half) (s : State) : Host.Outcome State Fault Refusal :=
  .next (s.jobRow 0x11#8 .readCommitment form)

/-- LIST_COMMITMENTS (R102). -/
def execListCommitments (form : JobForm ListArgs) (s : State) : Host.Outcome State Fault Refusal :=
  .next (s.jobRow 0x12#8 .listCommitments form)

/-- READ_DEFICITS (R78). -/
def execReadDeficits (form : JobForm Byte) (s : State) : Host.Outcome State Fault Refusal :=
  .next (s.jobRow 0x13#8 .readDeficits form)

end Sys2Proof.Machine
end

