-- ==== Sys2Proof/Machine/PortCommands.lean ====
section
/-! DEFINITION. A transfer of bytes as the commands it brings, and the meanings of the three transfers and of the requests
permitted on every port (chapter 12). -/

namespace Sys2Proof.Machine

/-- A transfer of bytes arrives at a port: the commands that its first byte brings join the queue, none for a transfer
that the part ignores (R164, TABLE 12(a)). -/
def State.receive (s : State) (p : Port) (bytes : List Byte) : State :=
  { s with pending := s.pending ++ transferEvents p bytes }

/-- WRITE (R165, R166). -/
def execWrite (port : Port) (bytes : List Byte) (s : State) : Host.Outcome State Fault Refusal :=
  .next (s.transfer port (fun s => s.write port bytes))

/-- READ (R167). -/
def execRead (port : Port) (part : ReadPart) (s : State) : Host.Outcome State Fault Refusal :=
  .next (s.transfer port (fun s => s.withPort port ((s.port port).readTransfer part)))

/-- LINK_RESET (R172, R92). -/
def execLinkReset (port : Port) (s : State) : Host.Outcome State Fault Refusal :=
  .next (s.transfer port (fun s => s.linkReset port))

/-- READ_STATUS (R173). -/
def execReadStatus (port : Port) (tag : Byte) (s : State) : Host.Outcome State Fault Refusal :=
  .next (s.transfer port (fun s => s.present port tag .readStatus))

/-- READ_NOTICES (R170). -/
def execReadNotices (port : Port) (tag : Byte) (s : State) : Host.Outcome State Fault Refusal :=
  .next (s.transfer port (fun s => s.present port tag .readNotices))

/-- SET_ATTENTION (R171). -/
def execSetAttention (port : Port) (tag : Byte) (mask : Half) (threshold : Byte) (s : State) :
    Host.Outcome State Fault Refusal :=
  .next (s.transfer port (fun s => s.present port tag (.setAttention mask threshold)))

end Sys2Proof.Machine
end

