-- ==== Sys2Proof/Machine/TimeCommands.lean ====
section
/-! DEFINITION. The meanings of the commands of time, reset, power and pins (chapters 1, 9.4, 12.9). A row that
names a consequence of a tick event is that tick event in a state in which the consequence comes about, and does
nothing in any other (log 2). -/

namespace Sys2Proof.Machine

/-! ### Reset and power -/

/-- DEVICE_RESET (R174, R93). -/
def execDeviceReset (cause : ResetCause) (s : State) : Host.Outcome State Fault Refusal := .next (s.beginReset cause)

/-- RESET_RELEASE (R174). -/
def execResetRelease (s : State) : Host.Outcome State Fault Refusal := .next s.release

/-- POWER_FAIL (R93). -/
def execPowerFail (s : State) : Host.Outcome State Fault Refusal := .next s.losePower

/-! ### The tick event and what comes about in it -/

/-- TICK_EVENT (R1). -/
def execTickEvent (s : State) : Host.Outcome State Fault Refusal := .next (s.act State.tick)

/-- The tick event, if what a row names comes about in it. -/
def State.tickIf (s : State) (due : Bool) : State := if due then s.act State.tick else s

/-- Whether the next tick event is a second mark (R2). -/
def Mtu.secondDue (m : Mtu) : Bool := m.phase == 9

/-- Whether the next tick event is a boundary event (R13). -/
def State.boundaryDue (s : State) : Bool :=
  s.mtu.secondDue && s.mtu.running && s.wraps && decide (s.mtu.clock ≠ Config.lastInterval)

/-- Whether the next tick event judges the second missing (R4). -/
def Mtu.missDue (m : Mtu) : Bool := m.phase == 1 && m.window

/-- Whether the next tick event takes HOLDOVER to FAILED (R8). -/
def State.failDue (s : State) : Bool :=
  s.mtu.missDue && s.mtu.timeState == .holdover && decide (s.eng.settings.holdoverLimit ≤ s.mtu.holdover + 1)

/-- Whether the period count reaches the rollup period at the next tick event (R54). -/
def State.periodDue (s : State) : Bool := s.mtu.secondDue && decide (s.tiu.rollupPeriod ≤ s.tiu.periodCount + 1)

/-- Whether the next tick event ends a product's activation by its sustain limit (R137). -/
def State.sustainDue (s : State) (p : Nat) : Bool :=
  s.acu.records.any (fun r => r.product == p && r.atLimit (s.product r.product))

/-- Whether the next tick event ends a group's guard (R149). -/
def State.guardDue (s : State) (g : Nat) : Bool := decide (g < Config.numGroups) && (s.dsp.group g).guardEnds

/-- SECOND_MARK (R2). -/
def execSecondMark (s : State) : Host.Outcome State Fault Refusal := .next (s.tickIf s.mtu.secondDue)

/-- BOUNDARY_EVENT (R13). -/
def execBoundaryEvent (s : State) : Host.Outcome State Fault Refusal := .next (s.tickIf s.boundaryDue)

/-- MISSING_PULSE (R4, R6, R8). -/
def execMissingPulse (s : State) : Host.Outcome State Fault Refusal := .next (s.tickIf s.mtu.missDue)

/-- HOLDOVER_TO_FAILED (R8). -/
def execHoldoverToFailed (s : State) : Host.Outcome State Fault Refusal := .next (s.tickIf s.failDue)

/-- ROLLUP_PERIOD_EXPIRY (R54). -/
def execRollupPeriodExpiry (s : State) : Host.Outcome State Fault Refusal := .next (s.tickIf s.periodDue)

/-- SUSTAIN_LIMIT (R137). -/
def execSustainLimit (product : Nat) (s : State) : Host.Outcome State Fault Refusal :=
  .next (s.tickIf (s.sustainDue product))

/-- GUARD_END (R149). -/
def execGuardEnd (group : Nat) (s : State) : Host.Outcome State Fault Refusal := .next (s.tickIf (s.guardDue group))

/-! ### The PPS input and the trip lines -/

/-- PPS_PULSE (R4 to R7, R12). -/
def execPpsPulse (s : State) : Host.Outcome State Fault Refusal := .next (s.act State.ppsPulse)

/-- The level of a trip line's pin, which stands whether or not the part works (R140, log 14). -/
def State.setLevel (s : State) (l : Line) (level : Bool) : State :=
  { s with acu := s.acu.withLine l { s.acu.line l with asserted := level } }

/-- TRIP_LINE_ASSERT (R140). -/
def execTripLineAssert (line : Line) (s : State) : Host.Outcome State Fault Refusal :=
  match s.supply with
  | .running => .next (s.act (fun s => s.assertLine line))
  | .held | .off => .next (s.setLevel line true)

/-- TRIP_LINE_DEASSERT (R140). -/
def execTripLineDeassert (line : Line) (s : State) : Host.Outcome State Fault Refusal :=
  match s.supply with
  | .running => .next (s.act (fun s => s.deassertLine line))
  | .held | .off => .next (s.setLevel line false)

/-- Whether an assertion of a line qualifies it at once: qualification ticks of 0 and no latch (R140). -/
def Acu.qualifiesAtOnce (a : Acu) (l : Line) : Bool :=
  !(a.line l).asserted && !(a.line l).latched && a.qualification == 0

/-- TRIP_QUALIFIED (R140): the tick event or the assertion in which the line qualifies. -/
def execTripQualified (line : Line) (s : State) : Host.Outcome State Fault Refusal :=
  .next (if s.acu.qualifies line then s.act State.tick
    else if s.acu.qualifiesAtOnce line then s.act (fun s => s.assertLine line)
    else s)

end Sys2Proof.Machine
end

