-- ==== Sys2Proof/Machine/Dispatch.lean ====
section
/-! DEFINITION. The command table: one meaning for each row of spec/opcode_table.json. -/

namespace Sys2Proof.Machine

/-- A command's effect on everything but the queue. -/
def exec (i : Instr) (s : State) : Host.Outcome State Fault Refusal :=
  match i with
  | .deviceReset cause => Sys2Proof.Machine.execDeviceReset cause s
  | .resetRelease => Sys2Proof.Machine.execResetRelease s
  | .tickEvent => Sys2Proof.Machine.execTickEvent s
  | .secondMark => Sys2Proof.Machine.execSecondMark s
  | .boundaryEvent => Sys2Proof.Machine.execBoundaryEvent s
  | .ppsPulse => Sys2Proof.Machine.execPpsPulse s
  | .missingPulse => Sys2Proof.Machine.execMissingPulse s
  | .holdoverToFailed => Sys2Proof.Machine.execHoldoverToFailed s
  | .rollupPeriodExpiry => Sys2Proof.Machine.execRollupPeriodExpiry s
  | .tripLineAssert line => Sys2Proof.Machine.execTripLineAssert line s
  | .tripLineDeassert line => Sys2Proof.Machine.execTripLineDeassert line s
  | .tripQualified line => Sys2Proof.Machine.execTripQualified line s
  | .sustainLimit product => Sys2Proof.Machine.execSustainLimit product s
  | .guardEnd group => Sys2Proof.Machine.execGuardEnd group s
  | .write port bytes => Sys2Proof.Machine.execWrite port bytes s
  | .read port part => Sys2Proof.Machine.execRead port part s
  | .linkReset port => Sys2Proof.Machine.execLinkReset port s
  | .timeSet port tag interval second => Sys2Proof.Machine.execTimeSet port tag interval second s
  | .configureMarket form => Sys2Proof.Machine.execConfigureMarket form s
  | .productSet form => Sys2Proof.Machine.execProductSet form s
  | .productRead form => Sys2Proof.Machine.execProductRead form s
  | .hold form => Sys2Proof.Machine.execHold form s
  | .queryHeadroom form => Sys2Proof.Machine.execQueryHeadroom form s
  | .award form => Sys2Proof.Machine.execAward form s
  | .release form => Sys2Proof.Machine.execRelease form s
  | .readSettlement form => Sys2Proof.Machine.execReadSettlement form s
  | .readCommitment form => Sys2Proof.Machine.execReadCommitment form s
  | .listCommitments form => Sys2Proof.Machine.execListCommitments form s
  | .readDeficits form => Sys2Proof.Machine.execReadDeficits form s
  | .readGroup form => Sys2Proof.Machine.execReadGroup form s
  | .activate form => Sys2Proof.Machine.execActivate form s
  | .deactivate form => Sys2Proof.Machine.execDeactivate form s
  | .tripJob => Sys2Proof.Machine.execTripJob s
  | .armTrip port tag line product => Sys2Proof.Machine.execArmTrip port tag line product s
  | .configureGrid port tag guard qualification => Sys2Proof.Machine.execConfigureGrid port tag guard qualification s
  | .readActivations port tag => Sys2Proof.Machine.execReadActivations port tag s
  | .readCapture port tag => Sys2Proof.Machine.execReadCapture port tag s
  | .clearCapture port tag => Sys2Proof.Machine.execClearCapture port tag s
  | .siteSet form => Sys2Proof.Machine.execSiteSet form s
  | .groupSet form => Sys2Proof.Machine.execGroupSet form s
  | .curveSet form => Sys2Proof.Machine.execCurveSet form s
  | .telemetry port tag reports => Sys2Proof.Machine.execTelemetry port tag reports s
  | .forecast form => Sys2Proof.Machine.execForecast form s
  | .configureFleet port tag staleLimit rollupPeriod => Sys2Proof.Machine.execConfigureFleet port tag staleLimit rollupPeriod s
  | .setpointChanges port tag => Sys2Proof.Machine.execSetpointChanges port tag s
  | .readSetpoints port tag first count => Sys2Proof.Machine.execReadSetpoints port tag first count s
  | .readStatus port tag => Sys2Proof.Machine.execReadStatus port tag s
  | .readNotices port tag => Sys2Proof.Machine.execReadNotices port tag s
  | .setAttention port tag mask threshold => Sys2Proof.Machine.execSetAttention port tag mask threshold s
  | .rollover extent => Sys2Proof.Machine.execRollover extent s
  | .rollup extent => Sys2Proof.Machine.execRollup extent s
  | .dispatch => Sys2Proof.Machine.execDispatch s
  | .powerFail => Sys2Proof.Machine.execPowerFail s

end Sys2Proof.Machine
end

