-- ==== Sys2Proof/Machine/Step.lean ====
section
/-! DEFINITION. The step of the TL48: the command at the front of the queue, or idling (log 3). -/

namespace Sys2Proof.Machine

/-- Takes the command at the front of the queue; with none waiting the block idles. -/
def step (s : State) : Host.Outcome State Fault Refusal :=
  match s.pending with
  | [] => .next s
  | c :: rest => exec c { s with pending := rest }

/-- The state with the command that a word spells put at the front of its queue; no word spells one, and the state
is then unchanged. -/
def State.withFetchWord (s : State) (nbits w : Nat) : State :=
  match decodeTableWord nbits w with
  | some c => { s with pending := c :: s.pending }
  | none => s

end Sys2Proof.Machine
end

