-- ==== Sys2Proof/WellFormed.lean ====
section
/-! DEFINITION. The checks that a command's operands are those its row can have: a request is permitted on its port
(TABLE 12(b)) and its counted lists have the lengths their bodies allow (R48, R69, TABLE 12(b)); an event names a
product or group that exists (TABLE 0(d)). -/

namespace Sys2Proof

/-- Whether a request's counted parts have lengths its body can carry. -/
def Request.wf : Request → Bool
  | .telemetry rs => decide (1 ≤ rs.length ∧ rs.length ≤ 32)
  | .forecast a => decide (1 ≤ a.entries.length ∧ a.entries.length ≤ 16)
  | .curveSet a => decide (a.values.length = 16)
  | _ => true

/-- Whether a request may be presented on a port. -/
def Request.presentable (p : Port) (r : Request) : Bool := Machine.permitted p r && r.wf

/-- The check of a row in one of its two forms. -/
def JobForm.wf {α : Type} (make : α → Request) : JobForm α → Bool
  | .request p _ a => (make a).presentable p
  | .job => true

/-- Whether a command is well formed. -/
def Instr.wf : Instr → Bool
  | .deviceReset _ => true
  | .resetRelease => true
  | .tickEvent => true
  | .secondMark => true
  | .boundaryEvent => true
  | .ppsPulse => true
  | .missingPulse => true
  | .holdoverToFailed => true
  | .rollupPeriodExpiry => true
  | .tripLineAssert _ => true
  | .tripLineDeassert _ => true
  | .tripQualified _ => true
  | .sustainLimit p => decide (p < Config.numProducts)
  | .guardEnd g => decide (g < Config.numGroups)
  | .write _ _ => true
  | .read _ _ => true
  | .linkReset _ => true
  | .timeSet p _ n s => (Request.timeSet n s).presentable p
  | .configureMarket f => f.wf .configureMarket
  | .productSet f => f.wf .productSet
  | .productRead f => f.wf .productRead
  | .hold f => f.wf .hold
  | .queryHeadroom f => f.wf .queryHeadroom
  | .award f => f.wf .award
  | .release f => f.wf .release
  | .readSettlement f => f.wf (fun _ => .readSettlement)
  | .readCommitment f => f.wf .readCommitment
  | .listCommitments f => f.wf .listCommitments
  | .readDeficits f => f.wf .readDeficits
  | .readGroup f => f.wf .readGroup
  | .activate f => f.wf .activate
  | .deactivate f => f.wf .deactivate
  | .tripJob => true
  | .armTrip p _ l q => (Request.armTrip l q).presentable p
  | .configureGrid p _ g q => (Request.configureGrid g q).presentable p
  | .readActivations p _ => Request.readActivations.presentable p
  | .readCapture p _ => Request.readCapture.presentable p
  | .clearCapture p _ => Request.clearCapture.presentable p
  | .siteSet f => f.wf .siteSet
  | .groupSet f => f.wf .groupSet
  | .curveSet f => f.wf .curveSet
  | .telemetry p _ rs => (Request.telemetry rs).presentable p
  | .forecast f => f.wf .forecast
  | .configureFleet p _ l q => (Request.configureFleet l q).presentable p
  | .setpointChanges p _ => Request.setpointChanges.presentable p
  | .readSetpoints p _ f n => (Request.readSetpoints f n).presentable p
  | .readStatus p _ => Request.readStatus.presentable p
  | .readNotices p _ => Request.readNotices.presentable p
  | .setAttention p _ m t => (Request.setAttention m t).presentable p
  | .rollover _ => true
  | .rollup _ => true
  | .dispatch => true
  | .powerFail => true

end Sys2Proof
end

