-- ==== Sys2Proof/Safety.lean ====
section
/-! DEFINITION. The terms in which claims about runs are stated: when the part is ready, what a taken slot and a
completed reply leave at a port, and the invariants that every step keeps. -/

namespace Sys2Proof.Machine

/-! ### Conditions on a state -/

/-- The part runs and its engine is free: no job, an empty scratch and no class that holds work. -/
def State.ready (s : State) : Bool :=
  s.supply == .running && s.eng.job.isNone && s.eng.scratch.isNone && !s.eng.hasWork

/-- An idle engine of a running part has no work (R85): it would have started it. -/
def State.settled (s : State) : Bool := s.supply != .running || s.eng.job.isSome || !s.eng.hasWork

/-- The engine runs a job that nothing abandons: any but an ADMISSION job whose abandon count is below 3 (R79, R90). -/
def Engine.held (e : Engine) : Bool :=
  match e.job with
  | none => false
  | some (.admission r) => decide (Config.immuneAt ≤ r.entry.abandons)
  | some _ => true

/-! ### What a request leaves at its port -/

/-- The lowest free slot of a port (log 20). -/
def State.freeSlot (s : State) (p : Port) : Option Nat := (s.port p).freeSlot

/-- A port whose slot `k` has been taken by the WRITE of a request's frame (R165). -/
def State.taken (s : State) (p : Port) (k : Nat) (tag : Byte) (r : Request) : State :=
  s.withPort p ((s.port p).takeSlot k (requestFrame tag r))

/-- The slot taken and the reply completed (R165, R167). -/
def State.answered (s : State) (p : Port) (k : Nat) (tag : Byte) (r : Request) (c : Status) (b : ReplyBody) : State :=
  (s.taken p k tag r).complete p ⟨k, requestCode r, tag, c, b⟩

/-- The engine's entry for a request (R81). -/
def entryOf (p : Port) (k : Nat) (tag : Byte) (r : Request) : Entry := ⟨p, k, tag, r, 0⟩

/-- The count of a notice kind at a port (R169). -/
def State.count (s : State) (p : Port) (k : Notice) : Nat := Table.get 0 (s.port p).notices k.code

/-- A count after one more raise of its kind, if the kind is routed to the port (R169). -/
def State.countRaised (s : State) (p : Port) (k : Notice) : Nat :=
  if k.routed p then saturate 255 (s.count p k + 1) else s.count p k

/-- The row of the table that presents a request. -/
def commandOf (p : Port) (tag : Byte) : Request → Instr
  | .timeSet n x => .timeSet p tag n x
  | .configureMarket a => .configureMarket (.request p tag a)
  | .productSet a => .productSet (.request p tag a)
  | .hold a => .hold (.request p tag a)
  | .award a => .award (.request p tag a)
  | .release a => .release (.request p tag a)
  | .queryHeadroom a => .queryHeadroom (.request p tag a)
  | .readSettlement => .readSettlement (.request p tag ())
  | .productRead x => .productRead (.request p tag x)
  | .readCommitment i => .readCommitment (.request p tag i)
  | .listCommitments a => .listCommitments (.request p tag a)
  | .readDeficits x => .readDeficits (.request p tag x)
  | .activate a => .activate (.request p tag a)
  | .deactivate x => .deactivate (.request p tag x)
  | .armTrip l x => .armTrip p tag l x
  | .configureGrid g q => .configureGrid p tag g q
  | .readActivations => .readActivations p tag
  | .readCapture => .readCapture p tag
  | .clearCapture => .clearCapture p tag
  | .siteSet a => .siteSet (.request p tag a)
  | .groupSet a => .groupSet (.request p tag a)
  | .curveSet a => .curveSet (.request p tag a)
  | .telemetry rs => .telemetry p tag rs
  | .forecast a => .forecast (.request p tag a)
  | .configureFleet l q => .configureFleet p tag l q
  | .setpointChanges => .setpointChanges p tag
  | .readSetpoints f n => .readSetpoints p tag f n
  | .readGroup g => .readGroup (.request p tag g)
  | .readStatus => .readStatus p tag
  | .readNotices => .readNotices p tag
  | .setAttention m t => .setAttention p tag m t

/-- The `job` form of the row of a request that the engine works (log 5). -/
def jobOf : Request → Option Instr
  | .configureMarket _ => some (.configureMarket .job)
  | .productSet _ => some (.productSet .job)
  | .hold _ => some (.hold .job)
  | .award _ => some (.award .job)
  | .release _ => some (.release .job)
  | .queryHeadroom _ => some (.queryHeadroom .job)
  | .readSettlement => some (.readSettlement .job)
  | .productRead _ => some (.productRead .job)
  | .readCommitment _ => some (.readCommitment .job)
  | .listCommitments _ => some (.listCommitments .job)
  | .readDeficits _ => some (.readDeficits .job)
  | .activate _ => some (.activate .job)
  | .deactivate _ => some (.deactivate .job)
  | .siteSet _ => some (.siteSet .job)
  | .groupSet _ => some (.groupSet .job)
  | .curveSet _ => some (.curveSet .job)
  | .forecast _ => some (.forecast .job)
  | .readGroup _ => some (.readGroup .job)
  | .timeSet .. | .armTrip .. | .configureGrid .. | .readActivations | .readCapture | .clearCapture | .telemetry _
  | .configureFleet .. | .setpointChanges | .readSetpoints .. | .readStatus | .readNotices | .setAttention .. => none

/-! ### Commands by what they can reach -/

/-- The port of a transfer or of a request presented on a port. -/
def Instr.portOf : Instr → Option Port
  | .write p _ | .read p _ | .linkReset p | .timeSet p _ _ _ | .armTrip p _ _ _ | .configureGrid p _ _ _
  | .readActivations p _ | .readCapture p _ | .clearCapture p _ | .telemetry p _ _ | .configureFleet p _ _ _
  | .setpointChanges p _ | .readSetpoints p _ _ _ | .readStatus p _ | .readNotices p _ | .setAttention p _ _ _ => some p
  | .configureMarket (.request p _ _) | .productSet (.request p _ _) | .productRead (.request p _ _)
  | .hold (.request p _ _) | .queryHeadroom (.request p _ _) | .award (.request p _ _) | .release (.request p _ _)
  | .readSettlement (.request p _ _) | .readCommitment (.request p _ _) | .listCommitments (.request p _ _)
  | .readDeficits (.request p _ _) | .readGroup (.request p _ _) | .activate (.request p _ _)
  | .deactivate (.request p _ _) | .siteSet (.request p _ _) | .groupSet (.request p _ _)
  | .curveSet (.request p _ _) | .forecast (.request p _ _) => some p
  | _ => none

/-- The commands that are events of blocks outside the engine: time, pins, transfers and the requests that a block
works on acceptance (TABLE 6(a)). -/
def Instr.outsideEngine : Instr → Bool
  | .tickEvent | .secondMark | .boundaryEvent | .ppsPulse | .missingPulse | .holdoverToFailed
  | .rollupPeriodExpiry | .tripLineAssert _ | .tripLineDeassert _ | .tripQualified _ | .sustainLimit _ | .guardEnd _
  | .write _ _ | .read _ _ | .linkReset _ | .timeSet _ _ _ _ | .armTrip _ _ _ _ | .configureGrid _ _ _ _
  | .readActivations _ _ | .readCapture _ _ | .clearCapture _ _ | .telemetry _ _ _ | .configureFleet _ _ _ _
  | .setpointChanges _ _ | .readSetpoints _ _ _ _ | .readStatus _ _ | .readNotices _ _ | .setAttention _ _ _ _
  | .powerFail => true
  | _ => false

/-- The commands that begin or end a device reset, or take power away. -/
def Instr.ofReset : Instr → Bool
  | .deviceReset _ | .resetRelease | .powerFail => true
  | _ => false

/-! ### Invariants -/

/-- Time and the Book (R12, R13, R16): b never exceeds c, the calendar origin never exceeds c, a calendar is pending only
in ACQUIRING, and until a calendar runs c is 0, no book interval exists and no ROLLOVER waits or runs. Inside a
ROLLOVER job b exists after the first stage, and is below c until the interval is retired. -/
structure State.TimeInv (s : State) : Prop where
  origin_le : s.mtu.origin ≤ s.mtu.clock
  pending : s.mtu.calendar.isSome → s.mtu.timeState = .acquiring
  idle : s.mtu.running = false →
    s.mtu.clock = 0 ∧ s.eng.bookInterval = none ∧ s.eng.housekeeping.flag = false ∧ s.eng.rollingOver = false
  book_le : ∀ b, s.eng.bookInterval = some b → b ≤ s.mtu.clock
  stage_book : ∀ st, s.eng.job = some (.rollover st) → st ≠ .between → s.eng.bookInterval.isSome
  stage_lt : ∀ a b, s.eng.bookInterval = some b →
    s.eng.job = some (.rollover (.completion a)) ∨ s.eng.job = some (.rollover (.retirement a)) → b < s.mtu.clock

/-- The signed range of a direction's fractions (R130); no fraction is called of an undefined product. -/
def Direction.allows (d : Direction) (f : Int) : Prop :=
  match d with
  | .none => f = 0
  | .up => 0 ≤ f ∧ f ≤ 1000
  | .down => -1000 ≤ f ∧ f ≤ 0
  | .sym => -1000 ≤ f ∧ f ≤ 1000

/-- The activation list (R130): in product order, at most one record a product, every fraction in its direction's
range, and an end cause exactly while ENDING; a trip event, queued or in progress, has its line's fraction (R83). -/
structure State.ActivationInv (s : State) : Prop where
  ordered : s.acu.records.Pairwise (fun a b => a.product < b.product)
  numbered : ∀ r ∈ s.acu.records, r.product < Config.numProducts
  target : ∀ r ∈ s.acu.records, (s.product r.product).direction.allows r.target
  current : ∀ r ∈ s.acu.records, (s.product r.product).direction.allows r.current
  cause : ∀ r ∈ s.acu.records, r.target = 0 ↔ r.cause.isSome
  events : ∀ e, ActEntry.trip e ∈ s.eng.activation ∨ s.eng.job = some (.trip e) → e.fraction = Line.fraction e.line

/-- The Book's collections (R74, R95, R96, R109, TABLE 7(a)): the deficit list in list order without duplicates and
within its 64 entries, the records in ascending id below 512 with shares in ascending group, the settlement queue
within its 64 records and full while any commitment is SETTLING. -/
structure State.BookInv (s : State) : Prop where
  deficit_order : s.cgr.deficits.Pairwise (fun a b => a.before b = true)
  deficit_room : s.cgr.deficits.length ≤ Config.deficitCapacity
  record_order : s.cmt.records.Pairwise (fun a b => a.id < b.id)
  record_id : ∀ r ∈ s.cmt.records, r.id < Config.numIds
  share_order : ∀ r ∈ s.cmt.records, r.shares.Pairwise (fun a b => a.group < b.group)
  scratch_order : ∀ x, s.eng.scratch = some x → x.shares.Pairwise (fun a b => a.group < b.group)
  queue_room : s.cmt.queue.length ≤ Config.settlementCapacity
  settling_full : (∃ r ∈ s.cmt.records, r.state = .settling) → s.cmt.queue.length = Config.settlementCapacity

/-- The shares of a quantity (R119, R127): 1 to 16, each of at least 1 PU in a group of the zone, that sum to it. -/
structure State.SharesFit (s : State) (zone quantity : Nat) (shares : List Share) : Prop where
  nonempty : shares ≠ []
  room : shares.length ≤ 16
  each : ∀ x ∈ shares, 1 ≤ x.power ∧ x.group < Config.numGroups ∧ (s.frg.group x.group).zone = zone
  sum : (shares.map (·.power)).sum = quantity

/-- A quantity that a product's record admits (R113, R125): at least the minimum and a multiple of the step. -/
def Product.admits (p : Product) (quantity : Nat) : Prop := p.minimum ≤ quantity ∧ quantity % p.step = 0

/-- Whether a ROLLOVER job stands between the retirement of an interval and the snapshots of the next (R103). -/
def Engine.beforeSnapshots (e : Engine) : Bool :=
  match e.job with
  | some (.rollover (.expiry _)) | some (.rollover (.support _)) | some (.rollover (.intervalEnd _ _))
  | some (.rollover (.snapshots _)) => true
  | _ => false

/-- A delivery snapshot (R98, R108): none in a HELD record or before the first interval; present in an AWARDED record from
the ROLLOVER that makes its first interval the book interval. -/
def State.SnapshotFits (s : State) (b : Nat) (r : Commitment) : Prop :=
  (r.state = .held → r.snapshot = none)
  ∧ (r.state = .awarded → b < r.first → r.snapshot = none)
  ∧ (s.supply = .running → r.state = .awarded →
      r.first < b ∨ (r.first = b ∧ s.eng.beforeSnapshots = false) → r.snapshot.isSome)

/-- The commitment records (R95, R96, R98, R127, R163): each of 1 to 16 intervals; a HELD or AWARDED one ends within the
horizon, has a quantity its product admits and shares that sum to it; figures exactly while SETTLING; the issue of its id,
and no settlement record of the same id and issue, nor two settlement records of one. A HOLD whose computing phase found its
shares has those of a record it may commit. No record exists before a book interval, and an enabled product is defined. -/
structure State.RecordInv (s : State) : Prop where
  enabled : ∀ p, (s.product p).enabled = true →
    (s.product p).direction ≠ .none ∧ 1 ≤ (s.product p).minimum ∧ 1 ≤ (s.product p).step
  unopened : s.eng.bookInterval = none → s.cmt.records = []
  range : ∀ r ∈ s.cmt.records, 1 ≤ r.count ∧ r.count ≤ 16 ∧ r.product < Config.numProducts
  horizon : ∀ b, s.eng.bookInterval = some b → ∀ r ∈ s.cmt.records, r.state ≠ .settling → r.last ≤ b + 95
  shares : ∀ r ∈ s.cmt.records, r.state ≠ .settling →
    (s.product r.product).admits r.quantity ∧ s.SharesFit r.zone r.quantity r.shares
  snapshot : ∀ b, s.eng.bookInterval = some b → ∀ r ∈ s.cmt.records, s.SnapshotFits b r
  figures : ∀ r ∈ s.cmt.records, r.figures.isSome ↔ r.state = .settling
  issue : ∀ r ∈ s.cmt.records, r.issue = s.cmt.issue r.id
  unqueued : ∀ r ∈ s.cmt.records, ∀ q ∈ s.cmt.queue, q.id = r.id → q.issue ≠ r.issue
  queue_once : s.cmt.queue.Pairwise (fun a b => a.id = b.id → a.issue ≠ b.issue)
  scratch : ∀ r a x, s.eng.job = some (.admission r) → r.entry.request = .hold a → s.eng.scratch = some x →
    x.refusal = none →
    (∃ b, s.eng.bookInterval = some b ∧ a.first.toNat + a.count.toNat - 1 ≤ b + 95)
    ∧ 1 ≤ a.count.toNat ∧ a.count.toNat ≤ 16 ∧ a.product.toNat < Config.numProducts
    ∧ (s.product a.product.toNat).admits a.quantity.toNat ∧ s.SharesFit a.zone.toNat a.quantity.toNat x.shares

/-- The sum of what the HELD and AWARDED records covering an interval add to a group's loads there (R67). -/
def State.committedLoad (s : State) (g i : Nat) : Quad :=
  ((s.cmt.records.filter (fun r => decide (r.state ≠ .settling) && r.covers i)).map
    (fun r => contribution (s.product r.product) (r.shareIn g))).foldr Quad.add {}

/-- Every load of the horizon is the sum of the contributions of the HELD and AWARDED records (R67). Between the completion
and the retirement of an interval, the loads of that interval still stand, and go with its slot (R66, R104). -/
def State.LoadInv (s : State) : Prop :=
  s.supply = .running → ∀ b g i, s.eng.bookInterval = some b → g < Config.numGroups → b ≤ i → i < b + Config.horizon →
    (i = b → ∀ a, s.eng.job ≠ some (.rollover (.retirement a))) → (s.cgr.entry g i).load = s.committedLoad g i

/-- At most one queued trip event for each line (R83). -/
def Engine.oneTripEach (e : Engine) : Prop := ∀ l, e.activation.countP (ActEntry.isTrip l) ≤ 1

/-- The dirty set lists sites in ascending number, each once (R152). -/
def DispatchUnit.dirtyOrdered (d : DispatchUnit) : Prop :=
  d.dirty.Pairwise (fun i j => i < j) ∧ ∀ i ∈ d.dirty, i < Config.numSites

/-- A port's tables are in canonical form (log 18). -/
def PortState.canonical (x : PortState) : Bool := Table.wf none x.slots && Table.wf 0 x.notices

/-- Every table of the state is in canonical form (log 18). -/
def State.canonical (s : State) : Bool :=
  Table.wf {} s.cmt.products && Table.wf 0#8 s.cmt.issues
    && Table.wf {} s.frg.sites && Table.wf {} s.frg.groups && Table.wf flatCurve s.frg.curves
    && Table.wf none s.tiu.raw && Table.wf {} s.tiu.sites && Table.wf {} s.tiu.groups
    && Table.wf {} s.cgr.ring && Table.wf {} s.acu.accounts
    && Table.wf {} s.dsp.groups && Table.wf {} s.dsp.setpoints
    && s.market.canonical && s.grid.canonical && s.fleet.canonical

end Sys2Proof.Machine
end

