-- ==== Sys2Proof/Certificates/Slice0/Obligations.lean ====
section
/-! DEFINITION. The statements for the provers. In a statement, `u.choose` is the state `u` an event leaves, after which an
idle engine has started its next job (see `EngineStartsHighestRankedWork`); `s.answered` is `s` with the request's slot
taken and its reply completed. -/

open Sys2Proof Sys2Proof.Machine

/-! ### The step and the commands as a whole -/

/-- The step takes the command at the front of the queue and runs it on the rest; with none waiting it idles (the
task's own rule for a block; log 3). -/
def Obligations.StepTakesFrontCommand : Prop :=
  (∀ (c : Instr) (rest : List Instr) (s : State),
    step { s with pending := c :: rest } = exec c { s with pending := rest })
  ∧ ∀ s : State, s.pending = [] → step s = .next s

/-- No command stops the part, and none touches the queue. Both are the model's choice: that nothing faults or is refused is
log 24's, and that commands come into the queue only from outside is log 3's. -/
def Obligations.EveryCommandAnswersNext : Prop :=
  ∀ (i : Instr) (s : State), ∃ t : State, exec i s = .next t ∧ t.pending = s.pending

/-! ### Reset and power -/

/-- What the release of a device reset leaves: the value the spec gives each piece of state (12.9 and the reset rule of
each chapter). The reset cause and the levels of the trip lines stand. That a RESET_RELEASE outside a reset changes nothing
is the model's choice (log 15). -/
def Obligations.ReleaseGivesResetValues : Prop :=
  (∀ s : State, s.supply = .held → ∃ t : State, exec .resetRelease s = .next t
    ∧ t.supply = .running ∧ t.cause = s.cause
    ∧ t.mtu = { timeState := .unset, phase := 0, runSeconds := 0#32, clock := 0, second := 0, goodRun := 0,
                holdover := 0, faults := 0, calendar := none, origin := 0, window := false }
    ∧ (∀ i, t.frg.site i = ⟨none, 0, 0, 0, 0⟩) ∧ (∀ g, t.frg.group g = ⟨0, 0, 1000⟩)
    ∧ (∀ k c, t.frg.curve k c = List.replicate 16 256)
    ∧ (∀ i, Table.get none t.tiu.raw i = none ∧ t.tiu.site i = ⟨false, 0, 0, 0, 0, 0, none⟩)
    ∧ (∀ g, t.tiu.group g = ⟨0, 0, 0, 0, 0, 0⟩)
    ∧ t.tiu.staleLimit = 30 ∧ t.tiu.rollupPeriod = 5 ∧ t.tiu.periodCount = 0
    ∧ t.cgr.deficits = [] ∧ t.cgr.overflow = false
    ∧ t.eng.job = none ∧ t.eng.scratch = none ∧ t.eng.activation = [] ∧ t.eng.fleet = [] ∧ t.eng.book = []
    ∧ t.eng.admission = [] ∧ t.eng.dispatch = ⟨false, 0⟩ ∧ t.eng.housekeeping = ⟨false, 0⟩
    ∧ t.eng.rollup = ⟨false, 0⟩ ∧ t.eng.activationMerges = 0 ∧ t.eng.abandonTotal = 0
    ∧ t.eng.bookInterval = none ∧ t.eng.settings = ⟨900, 4, 1, 26, 300⟩
    ∧ t.cmt.records = [] ∧ t.cmt.queue = [] ∧ (∀ i, t.cmt.issue i = 0#8)
    ∧ (∀ p, t.product p = ⟨.none, 0, 0, 0, 0, 0, 0, false⟩)
    ∧ t.acu.records = [] ∧ (∀ p, accountOf t.acu.accounts p = ⟨0#48, 0#32⟩)
    ∧ (∀ l, t.acu.line l = ⟨none, (s.acu.line l).asserted, 0, false, 0, none⟩)
    ∧ t.acu.guardTicks = 10 ∧ t.acu.qualification = 2
    ∧ (∀ g, t.dsp.group g = ⟨0, 0, 0, false, 0, 0#32, [], false⟩) ∧ (∀ i, t.dsp.setpoint i = ⟨0, 0#16⟩)
    ∧ t.dsp.sequence = 0#16 ∧ t.dsp.dirty = [] ∧ t.dsp.tickCount = 0#32
    ∧ t.dvu = ⟨none, 0⟩
    ∧ ∀ p, (∀ k, Table.get none (t.port p).slots k = none) ∧ (t.port p).replies = []
        ∧ (t.port p).lastWriteRefused = false ∧ (t.port p).mask = 0xFFF#12 ∧ (t.port p).threshold = 0
        ∧ (∀ k, t.count p k = if k = .resetDone then 1 else 0) ∧ t.attn p = true)
  ∧ ∀ s : State, s.supply ≠ .held → exec .resetRelease s = .next s

/-- How a device reset begins and what is lost (12.9, 6.7): the job, the scratch, every waiting request or event and every
transfer in progress; ATTN is low on every port. A fall of RESETn during a reset changes nothing, and without power is
not seen (log 15). -/
def Obligations.ResetBeginsAndPowerFails : Prop :=
  ∀ s : State,
    let lost (t : State) : Prop := t.eng.job = none ∧ t.eng.scratch = none ∧ t.eng.activation = []
      ∧ t.eng.fleet = [] ∧ t.eng.book = [] ∧ t.eng.admission = [] ∧ ∀ p, (t.port p).reading = none ∧ t.attn p = false
    (∃ t : State, exec (.deviceReset .powerOn) s = .next t ∧ t.supply = .held ∧ t.cause = .powerOn ∧ lost t)
    ∧ (s.supply = .running → ∃ t : State, exec (.deviceReset .pin) s = .next t ∧ t.supply = .held ∧ t.cause = .pin ∧ lost t)
    ∧ (s.supply ≠ .running → exec (.deviceReset .pin) s = .next s)
    ∧ (∃ t : State, exec .powerFail s = .next t ∧ t.supply = .off ∧ lost t)

/-- While a device reset lasts no event is worked, transfers are ignored and ATTN stays low (12.9, 12.1). That the state inside
a reset stands as it was but for MISO and the levels of the trip lines, which follow their pins, and that the same holds
without power, is the model's choice (log 14): the spec says what a release leaves, not what memory holds before it. -/
def Obligations.NothingIsWorkedInReset : Prop :=
  ∀ (i : Instr) (s t : State), s.supply ≠ .running → Instr.ofReset i = false → exec i s = .next t →
    t.supply = s.supply ∧ t.cause = s.cause ∧ t.mtu = s.mtu ∧ t.frg = s.frg ∧ t.tiu = s.tiu ∧ t.cgr = s.cgr
    ∧ t.eng = s.eng ∧ t.cmt = s.cmt ∧ t.dsp = s.dsp ∧ t.dvu = s.dvu
    ∧ t.acu.records = s.acu.records ∧ t.acu.accounts = s.acu.accounts ∧ t.acu.guardTicks = s.acu.guardTicks
    ∧ t.acu.qualification = s.acu.qualification
    ∧ (∀ l, { t.acu.line l with asserted := (s.acu.line l).asserted } = s.acu.line l)
    ∧ ∀ p, { t.port p with miso := (s.port p).miso } = s.port p ∧ t.attn p = false

/-! ### Time -/

/-- TICK_EVENT (1.1, 1.2, 10.1, 10.3): the phase advances or returns to 0, the Dispatch Unit's tick count grows and every
running guard loses a tick, the pulse window opens with tick 9 while pulses are judged, and every other item of the Market
Time Unit stands (tick 9 is `SecondMarkCountsSecondsAndBoundaries`, tick 1 with the window open `MissingPulseIsJudged`).
No table of the Book, the registry, the intake or the setpoints is touched. GUARD_END is the tick event at which a group's guard ends, and raises DISPATCH, once however many
guards end (shown where no fraction changes with it). -/
def Obligations.TickEventAdvancesPhaseAndCounts : Prop :=
  ∀ s : State, s.supply = .running → ∃ u : State, exec .tickEvent s = .next u.choose
    ∧ u.mtu.phase = (if s.mtu.phase = 9 then 0 else s.mtu.phase + 1)
    ∧ (s.mtu.phase ≠ 9 → u.mtu.runSeconds = s.mtu.runSeconds ∧ u.mtu.second = s.mtu.second
        ∧ u.mtu.clock = s.mtu.clock ∧ u.tiu = s.tiu)
    ∧ (s.mtu.phase = 8 → s.mtu.judging = true → u.mtu.window = true)
    ∧ (let judged := (s.mtu.timeState = .acquiring ∧ s.mtu.calendar = none) ∨ s.mtu.timeState = .locked
         ∨ s.mtu.timeState = .holdover
       s.mtu.phase ≠ 9 → s.mtu.phase ≠ 1 ∨ s.mtu.window = false → u.mtu = { s.mtu with
         phase := s.mtu.phase + 1, window := if s.mtu.phase = 8 ∧ judged then true else s.mtu.window })
    ∧ u.dsp.tickCount = s.dsp.tickCount + 1#32
    ∧ (∀ g, g < 64 → u.dsp.group g =
        if (s.dsp.group g).guard then
          { s.dsp.group g with guard := decide ((s.dsp.group g).remaining > 1), remaining := (s.dsp.group g).remaining - 1 }
        else s.dsp.group g)
    ∧ (∀ g, g < 64 → (s.dsp.group g).guard = true → (s.dsp.group g).remaining ≤ 1 →
        exec (.guardEnd g) s = .next u.choose ∧ u.eng.dispatch.flag = true
        ∧ (s.acu.records = [] → u.eng.dispatch = s.eng.dispatch.raised))
    ∧ u.dsp.setpoints = s.dsp.setpoints ∧ u.dsp.sequence = s.dsp.sequence ∧ u.dsp.dirty = s.dsp.dirty
    ∧ u.frg = s.frg ∧ u.cgr = s.cgr ∧ u.cmt = s.cmt ∧ u.dvu = s.dvu ∧ u.supply = s.supply ∧ u.cause = s.cause
    ∧ u.tiu.raw = s.tiu.raw ∧ u.tiu.sites = s.tiu.sites ∧ u.tiu.groups = s.tiu.groups

/-- SECOND_MARK, BOUNDARY_EVENT and ROLLUP_PERIOD_EXPIRY (1.1, 1.4, 4.3), which come about in the tick event that ends
tick 9 (log 2): run seconds, the second in interval, c and HOUSEKEEPING, the period count and ROLLUP. -/
def Obligations.SecondMarkCountsSecondsAndBoundaries : Prop :=
  ∀ s : State, s.supply = .running → s.mtu.phase = 9 →
    let wraps := s.mtu.running = true ∧ s.eng.settings.length ≤ s.mtu.second + 1
    let turns := wraps ∧ s.mtu.clock ≠ 4294967199
    let due := s.tiu.rollupPeriod ≤ s.tiu.periodCount + 1
    let marked (u : State) : Prop :=
      u.mtu = { s.mtu with
        phase := 0
        runSeconds := s.mtu.runSeconds + 1#32
        second := if wraps then 0 else if s.mtu.running then s.mtu.second + 1 else s.mtu.second
        clock := if turns then s.mtu.clock + 1 else s.mtu.clock }
      ∧ u.eng.housekeeping = (if turns then s.eng.housekeeping.raised else s.eng.housekeeping)
      ∧ u.tiu = { s.tiu with periodCount := if due then 0 else s.tiu.periodCount + 1 }
      ∧ u.eng.rollup = (if due then s.eng.rollup.raised else s.eng.rollup)
    ∃ u : State, marked u ∧ exec .secondMark s = .next u.choose ∧ exec .tickEvent s = .next u.choose
      ∧ (turns → exec .boundaryEvent s = .next u.choose)
      ∧ (due → exec .rollupPeriodExpiry s = .next u.choose)

/-- MISSING_PULSE and HOLDOVER_TO_FAILED (1.2, TABLE 1(b)): the window still open at the end of tick 1 closes and the second
is judged, which moves the run, holdover seconds and the time state; a change of time state raises TIME_STATE at every
port. -/
def Obligations.MissingPulseIsJudged : Prop :=
  ∀ s : State, s.supply = .running → s.mtu.phase = 1 → s.mtu.window = true →
    ∃ u : State, exec .missingPulse s = .next u.choose ∧ exec .tickEvent s = .next u.choose
      ∧ (s.mtu.timeState = .acquiring →
          u.mtu = { s.mtu with phase := 2, window := false, goodRun := 0 }
          ∧ ∀ p, u.count p .timeState = s.count p .timeState)
      ∧ (s.mtu.timeState = .locked →
          u.mtu = { s.mtu with phase := 2, window := false, goodRun := 0, holdover := 0, timeState := .holdover }
          ∧ ∀ p, u.count p .timeState = min 255 (s.count p .timeState + 1))
      ∧ (s.mtu.timeState = .holdover → s.mtu.holdover + 1 < s.eng.settings.holdoverLimit →
          u.mtu = { s.mtu with phase := 2, window := false, goodRun := 0, holdover := s.mtu.holdover + 1 }
          ∧ ∀ p, u.count p .timeState = s.count p .timeState)
      ∧ (s.mtu.timeState = .holdover → s.eng.settings.holdoverLimit ≤ s.mtu.holdover + 1 →
          exec .holdoverToFailed s = .next u.choose
          ∧ u.mtu = { s.mtu with
              phase := 2, window := false, goodRun := 0, holdover := s.mtu.holdover + 1, timeState := .failed }
          ∧ ∀ p, u.count p .timeState = min 255 (s.count p .timeState + 1))

/-- PPS_PULSE while a calendar is pending, in UNSET or in FAILED (1.3, TABLE 1(b)): the pulse is ignored, starts the
calendar, or drops a restart whose interval has passed. A starting pulse is a second mark; the model delivers it to no
block as a tick event (log 11). -/
def Obligations.StartingPulseStartsCalendar : Prop :=
  ∀ s : State, s.supply = .running →
    (s.mtu.timeState = .unset ∨ s.mtu.timeState = .failed → exec .ppsPulse s = .next s.choose)
    ∧ ∀ n, s.mtu.timeState = .acquiring → s.mtu.calendar = some n →
      let started (origin : Nat) : Mtu := { s.mtu with
        phase := 0, window := false, runSeconds := s.mtu.runSeconds + 1#32, second := n.second, goodRun := 1,
        calendar := none, clock := n.interval, origin := origin }
      let due := s.tiu.rollupPeriod ≤ s.tiu.periodCount + 1
      let counted : Intake := { s.tiu with periodCount := if due then 0 else s.tiu.periodCount + 1 }
      let rollup := if due then s.eng.rollup.raised else s.eng.rollup
      let starts (origin : Nat) (housekeeping : Trigger) := ∃ u : State, exec .ppsPulse s = .next u.choose
        ∧ u.mtu = started origin ∧ u.tiu = counted ∧ u.acu = s.acu ∧ u.dsp = s.dsp
        ∧ u.eng = { s.eng with housekeeping := housekeeping, rollup := rollup }
      (n.restart = false → starts n.interval s.eng.housekeeping.raised)
      ∧ (n.restart = true → s.mtu.clock < n.interval → starts s.mtu.origin s.eng.housekeeping.raised)
      ∧ (n.restart = true → n.interval = s.mtu.clock → starts s.mtu.origin s.eng.housekeeping)
      ∧ (n.restart = true → n.interval < s.mtu.clock → ∃ u : State, exec .ppsPulse s = .next u.choose
        ∧ u.mtu = { s.mtu with calendar := none, timeState := .failed } ∧ u.eng = s.eng ∧ u.tiu = s.tiu
        ∧ u.acu = s.acu ∧ u.dsp = s.dsp ∧ ∀ p, u.count p .timeState = min 255 (s.count p .timeState + 1))

/-- PPS_PULSE while pulses are judged (1.2): a pulse outside the window is stray and counts a fault; one inside it realigns
the phase, builds the run toward LOCKED, and in tick 9 is the second mark and the tick event that ends the tick: the period
count and ROLLUP of the mark, the guards, and every block as a tick event at the same moment leaves it (see
`TickStepsEveryActivation`, `TripLineQualifiesAtTick` and `SustainLimitEndsActivation` for what that is). -/
def Obligations.PulseIsGoodOrStray : Prop :=
  ∀ s : State, s.supply = .running →
    (s.mtu.timeState = .acquiring ∧ s.mtu.calendar = none) ∨ s.mtu.timeState = .locked ∨ s.mtu.timeState = .holdover →
    (s.mtu.window = false → exec .ppsPulse s = .next (State.choose { s with mtu := { s.mtu with
        faults := min 255 (s.mtu.faults + 1)
        goodRun := if s.mtu.timeState = .locked then s.mtu.goodRun else 0 } }))
    ∧ (s.mtu.window = true → ∃ u : State, exec .ppsPulse s = .next u.choose
      ∧ (let locks := s.mtu.timeState ≠ .locked ∧ 3 ≤ s.mtu.goodRun + 1
         let wraps := s.eng.settings.length ≤ s.mtu.second + 1
         let turns := wraps ∧ s.mtu.clock ≠ 4294967199
         let due := s.tiu.rollupPeriod ≤ s.tiu.periodCount + 1
         let judged : Mtu := { s.mtu with
           phase := 0
           window := false
           timeState := if locks then .locked else s.mtu.timeState
           goodRun := if locks then 3 else if s.mtu.timeState = .locked then s.mtu.goodRun else s.mtu.goodRun + 1 }
         (∀ p, u.count p .timeState = if locks then min 255 (s.count p .timeState + 1) else s.count p .timeState)
         ∧ (s.mtu.phase ≠ 9 → u.mtu = judged ∧ u.eng = s.eng ∧ u.tiu = s.tiu ∧ u.acu = s.acu ∧ u.dsp = s.dsp)
         ∧ (s.mtu.phase = 9 →
             u.mtu = { judged with
               runSeconds := s.mtu.runSeconds + 1#32
               second := if wraps then 0 else s.mtu.second + 1
               clock := if turns then s.mtu.clock + 1 else s.mtu.clock }
             ∧ u.eng.housekeeping = (if turns then s.eng.housekeeping.raised else s.eng.housekeeping)
             ∧ u.tiu = { s.tiu with periodCount := if due then 0 else s.tiu.periodCount + 1 }
             ∧ u.eng.rollup = (if due then s.eng.rollup.raised else s.eng.rollup)
             ∧ u.dsp.tickCount = s.dsp.tickCount + 1#32
             ∧ (∀ g, g < 64 → u.dsp.group g =
                 if (s.dsp.group g).guard then
                   { s.dsp.group g with
                     guard := decide ((s.dsp.group g).remaining > 1), remaining := (s.dsp.group g).remaining - 1 }
                 else s.dsp.group g)
             ∧ u.dsp.setpoints = s.dsp.setpoints ∧ u.cmt = s.cmt ∧ u.cgr = s.cgr ∧ u.frg = s.frg ∧ u.dvu = s.dvu
             ∧ ∃ v : State, exec .tickEvent s = .next v.choose
                 ∧ u.acu = v.acu ∧ u.dsp = v.dsp ∧ u.tiu = v.tiu ∧ u.eng = v.eng)))

/-- TIME_SET (1.3): its checks in their order, and what an accepted one records. -/
def Obligations.TimeSetChecksAndRecords : Prop :=
  ∀ (s : State) (k : Nat) (tag : Byte) (n : Word) (sec : Half), s.supply = .running → s.freeSlot .market = some k →
    let r := Request.timeSet n sec
    let settable := s.mtu.timeState = .unset ∨ s.mtu.timeState = .failed
    let inRange := sec.toNat < s.eng.settings.length ∧ n.toNat ≤ 4294967199
      ∧ (s.mtu.timeState = .failed → s.mtu.clock ≤ n.toNat)
    (¬settable → exec (.timeSet .market tag n sec) s = .next (s.answered .market k tag r .wrongState .empty).choose)
    ∧ (settable → ¬inRange → exec (.timeSet .market tag n sec) s =
        .next (s.answered .market k tag r .range .empty).choose)
    ∧ (settable → inRange → exec (.timeSet .market tag n sec) s =
        .next ((({ s with mtu := { s.mtu with
          timeState := .acquiring
          calendar := some ⟨n.toNat, sec.toNat, decide (s.mtu.timeState = TimeState.failed)⟩ } }).raise .timeState).answered
            .market k tag r .ok .empty).choose)

/-! ### Trip lines and activations (chapter 9) -/

/-- TRIP_LINE_ASSERT and TRIP_LINE_DEASSERT (9.4): an assertion waits for tick events, or with qualification ticks of 0
qualifies an unlatched line at once; a deassertion clears count and latch. Outside running only the pin's level follows
(log 14); an assertion of an asserted line is none (log 21). -/
def Obligations.TripLineEdges : Prop :=
  ∀ (s : State) (l : Line),
    let x := s.acu.line l
    let line (y : LineState) : State := { s with acu := s.acu.withLine l y }
    (s.supply = .running → x.asserted = true → exec (.tripLineAssert l) s = .next s.choose)
    ∧ (s.supply = .running → x.asserted = false → s.acu.qualification ≠ 0 ∨ x.latched = true →
        exec (.tripLineAssert l) s = .next (line { x with asserted := true }).choose)
    ∧ (s.supply = .running → x.asserted = false → s.acu.qualification = 0 → x.latched = false → x.armed = none →
        exec (.tripLineAssert l) s = .next (line
          { x with asserted := true, count := 0, latched := true, unarmed := min 255 (x.unarmed + 1) }).choose
        ∧ exec (.tripQualified l) s = exec (.tripLineAssert l) s)
    ∧ (∀ p, s.supply = .running → x.asserted = false → s.acu.qualification = 0 → x.latched = false → x.armed = some p →
        ∃ u : State, exec (.tripLineAssert l) s = .next u.choose ∧ exec (.tripQualified l) s = .next u.choose
          ∧ u.acu = s.acu.withLine l { x with asserted := true, count := 0, latched := true }
          ∧ (s.eng.activation.any (ActEntry.isTrip l) = false →
              u.eng.activation = s.eng.activation ++ [.trip ⟨l, p, match l with | .uft => 1000 | .oft => -1000⟩]
              ∧ u.eng.activationMerges = s.eng.activationMerges)
          ∧ (s.eng.activation.any (ActEntry.isTrip l) = true →
              u.eng = { s.eng with activationMerges := min 255 (s.eng.activationMerges + 1) }))
    ∧ (s.supply = .running → exec (.tripLineDeassert l) s =
        .next (line { x with asserted := false, count := 0, latched := false }).choose)
    ∧ (s.supply ≠ .running →
        exec (.tripLineAssert l) s = .next (line { x with asserted := true })
        ∧ exec (.tripLineDeassert l) s = .next (line { x with asserted := false }))

/-- TRIP_QUALIFIED (9.4, 6.3): the tick event at which the count of an asserted, unlatched line reaches the qualification
ticks latches it, and a trip event enters the ACTIVATION class, merges into the line's queued one, or is counted as
unarmed. A tick event that does not qualify the line counts it or leaves it. -/
def Obligations.TripLineQualifiesAtTick : Prop :=
  ∀ (s : State) (l : Line), s.supply = .running →
    let x := s.acu.line l
    (x.asserted = true → x.latched = false → s.acu.qualification ≤ x.count + 1 →
      ∃ u : State, exec (.tripQualified l) s = .next u.choose ∧ exec .tickEvent s = .next u.choose
        ∧ (x.armed = none → u.acu.line l = { x with count := 0, latched := true, unarmed := min 255 (x.unarmed + 1) }
            ∧ u.eng.activation.filter (ActEntry.isTrip l) = s.eng.activation.filter (ActEntry.isTrip l))
        ∧ (∀ p, x.armed = some p → u.acu.line l = { x with count := 0, latched := true }
            ∧ u.eng.activation.filter (ActEntry.isTrip l) =
                (if s.eng.activation.any (ActEntry.isTrip l) then s.eng.activation.filter (ActEntry.isTrip l)
                 else [.trip ⟨l, p, match l with | .uft => 1000 | .oft => -1000⟩])
            ∧ (s.eng.activation.any (ActEntry.isTrip l) = true → (∀ m, m ≠ l → s.acu.qualifies m = false) →
                u.eng.activationMerges = min 255 (s.eng.activationMerges + 1))))
    ∧ (x.asserted = true → x.latched = false → x.count + 1 < s.acu.qualification →
      ∃ u : State, exec .tickEvent s = .next u.choose ∧ u.acu.line l = { x with count := x.count + 1 })
    ∧ (x.asserted = false ∨ x.latched = true →
      ∃ u : State, exec .tickEvent s = .next u.choose ∧ u.acu.line l = x)

/-- TICK_EVENT at the Activation Control Unit (9.3): every record adds its fraction to its product's account, counts its
sustain, is tested against the sustain limit and steps toward its target; at zero with a zero target it is removed. A
product without a record is untouched, and DISPATCH is raised once if a fraction changed or a record was removed (here,
where no guard ends at the same tick event). -/
def Obligations.TickStepsEveryActivation : Prop :=
  ∀ s : State, s.supply = .running → s.ActivationInv → ∃ u : State, exec .tickEvent s = .next u.choose
    ∧ (∀ p, s.acu.record p = none → u.acu.record p = none
        ∧ accountOf u.acu.accounts p = accountOf s.acu.accounts p)
    ∧ (∀ p r, s.acu.record p = some r →
        let f := (s.product p).fullTicks
        let step : Int := ((1000 + f - 1) / f : Nat)
        let sustain := if r.current = 0 then r.sustain else min 4294967295 (r.sustain + 1)
        let ends := r.target ≠ 0 ∧ (s.product p).sustain * 600 ≤ sustain
        let target := if ends then 0 else r.target
        let current := if r.current ≤ target then r.current + min step (target - r.current)
          else r.current - min step (r.current - target)
        (accountOf u.acu.accounts p).fractionTicks =
            (accountOf s.acu.accounts p).fractionTicks + BitVec.ofNat 48 r.current.natAbs
        ∧ (accountOf u.acu.accounts p).activeTicks =
            (accountOf s.acu.accounts p).activeTicks + (if r.current = 0 then 0#32 else 1#32)
        ∧ u.acu.record p = (if current = 0 ∧ target = 0 then none else some { r with
            target := target, current := current, sustain := sustain
            cause := if ends then some .sustain else r.cause }))
    ∧ (let removed := (s.acu.records.filter (fun r => decide (u.acu.record r.product = none))).length
       let changed := s.acu.records.any (fun r => match u.acu.record r.product with
         | none => true
         | some n => decide (n.current ≠ r.current))
       (u.count .grid .activationEnded =
          if removed = 0 then s.count .grid .activationEnded else min 255 (s.count .grid .activationEnded + removed))
       ∧ ((∀ g, g < 64 → (s.dsp.group g).guardEnds = false) →
          u.eng.dispatch = if changed then s.eng.dispatch.raised else s.eng.dispatch))

/-- SUSTAIN_LIMIT (9.3): at the tick event at which a record with a nonzero target reaches its limit, its target becomes 0
with cause SUSTAIN, the ramp down begins with the same tick event, and SUSTAIN_LIMIT is raised at the grid port once for
each such record. -/
def Obligations.SustainLimitEndsActivation : Prop :=
  ∀ (s : State) (p : Nat) (r : Activation), s.supply = .running → s.ActivationInv → s.acu.record p = some r →
    let sustain := if r.current = 0 then r.sustain else min 4294967295 (r.sustain + 1)
    r.target ≠ 0 → (s.product p).sustain * 600 ≤ sustain →
    ∃ u : State, exec (.sustainLimit p) s = .next u.choose ∧ exec .tickEvent s = .next u.choose
      ∧ (∀ n, u.acu.record p = some n → n.target = 0 ∧ n.cause = some .sustain ∧ n.sustain = sustain
          ∧ n.current.natAbs = r.current.natAbs - rampStep (s.product p))
      ∧ (u.acu.record p = none ↔ r.current.natAbs ≤ rampStep (s.product p))
      ∧ u.count .grid .sustainLimit = min 255 (s.count .grid .sustainLimit
          + (s.acu.records.filter (fun x => s.sustainDue x.product)).length)

/-- ACTIVATE (9.2): its checks in their order, and what an accepted order leaves: a new record, a retargeted one, one left
unchanged, or for a clamped fraction of 0 the working of a DEACTIVATE. DEACTIVATE: RANGE, UNKNOWN, an ending with cause
DEACTIVATE, or a record already ENDING that keeps its cause. An order for the target held leaves its record's origin
(log 16). -/
def Obligations.ActivateChecksAndRetargets : Prop :=
  (∀ (s : State) (k : Nat) (tag product : Byte) (fraction : Half), s.ready = true → s.freeSlot .grid = some k →
    let r := Request.activate ⟨product, fraction⟩
    let p := product.toNat
    let x := fraction.toInt
    let f : Int := match (s.product p).direction with
      | .none => 0
      | .up => if x < 0 then 0 else min 1000 x
      | .down => if x < 0 then max (-1000) x else max (-1000) (-x)
      | .sym => max (-1000) (min 1000 x)
    let run := exec (.activate (.request .grid tag ⟨product, fraction⟩)) s
    let refused (c : Status) := Host.Outcome.next (s.answered .grid k tag r c .empty).endJob
    let left (n : Activation) (o : OrderResult) := Host.Outcome.next
      (({ s with acu := s.acu.put n }).answered .grid k tag r .ok (.activation n o)).endJob
    (7 < p → run = refused .range)
    ∧ (p ≤ 7 → (s.product p).enabled = false → run = refused .disabled)
    ∧ (p ≤ 7 → (s.product p).enabled = true → s.awardedNow p = false → run = refused .nothingAwarded)
    ∧ (p ≤ 7 → (s.product p).enabled = true → s.awardedNow p = true →
        (f = 0 → s.acu.record p = none → run = refused .unknown)
        ∧ (f = 0 → ∀ a, s.acu.record p = some a → a.target ≠ 0 →
            run = left { a with target := 0, cause := some .deactivate } .ended)
        ∧ (f = 0 → ∀ a, s.acu.record p = some a → a.target = 0 → run = left a .unchanged)
        ∧ (f ≠ 0 → s.acu.record p = none →
            run = left { product := p, target := f, current := 0, cause := none, sustain := 0, origin := .grid } .created)
        ∧ (f ≠ 0 → ∀ a, s.acu.record p = some a → a.target = 0 → a.cause = some .sustain ∨ a.cause = some .intervalEnd →
            run = refused .wrongState)
        ∧ (f ≠ 0 → ∀ a, s.acu.record p = some a → a.target = 0 → a.cause = some .deactivate →
            run = left { a with target := f, cause := none, origin := .grid } .retargeted)
        ∧ (f ≠ 0 → ∀ a, s.acu.record p = some a → a.target ≠ 0 → a.target ≠ f →
            run = left { a with target := f, origin := .grid } .retargeted)
        ∧ (f ≠ 0 → ∀ a, s.acu.record p = some a → a.target ≠ 0 → a.target = f → run = left a .unchanged)))
  ∧ ∀ (s : State) (k : Nat) (tag product : Byte), s.ready = true → s.freeSlot .grid = some k →
    let r := Request.deactivate product
    let p := product.toNat
    let run := exec (.deactivate (.request .grid tag product)) s
    let left (n : Activation) (o : OrderResult) := Host.Outcome.next
      (({ s with acu := s.acu.put n }).answered .grid k tag r .ok (.activation n o)).endJob
    (7 < p → run = .next (s.answered .grid k tag r .range .empty).endJob)
    ∧ (p ≤ 7 → s.acu.record p = none → run = .next (s.answered .grid k tag r .unknown .empty).endJob)
    ∧ (p ≤ 7 → ∀ a, s.acu.record p = some a → a.target ≠ 0 →
        run = left { a with target := 0, cause := some .deactivate } .ended)
    ∧ (p ≤ 7 → ∀ a, s.acu.record p = some a → a.target = 0 → run = left a .unchanged)

/-- TRIP_JOB (9.4): worked like an ACTIVATE at the event's fraction after the test that the direction fits the line; it
writes the line's last trip record and raises TRIP at the grid and market ports whatever the outcome. -/
def Obligations.TripJobWorksLikeActivate : Prop :=
  ∀ (s : State) (e : TripEvent), s.supply = .running → s.eng.job = some (.trip e) →
    ∃ (u : State) (c : Status), exec .tripJob s = .next u.choose
      ∧ u.eng = { s.eng with job := none, scratch := none, copy := u.eng.copy }
      ∧ u.acu.line e.line = { s.acu.line e.line with last := some ⟨c, e.product, e.fraction, s.mtu.runSeconds⟩ }
      ∧ (∀ l, l ≠ e.line → u.acu.line l = s.acu.line l) ∧ u.acu.accounts = s.acu.accounts
      ∧ u.acu.guardTicks = s.acu.guardTicks ∧ u.acu.qualification = s.acu.qualification
      ∧ (∀ p, u.count p .trip = if p = .fleet then s.count p .trip else min 255 (s.count p .trip + 1))
      ∧ u.cmt = s.cmt ∧ u.cgr = s.cgr ∧ u.dsp = s.dsp ∧ u.mtu = s.mtu ∧ u.tiu = s.tiu ∧ u.frg = s.frg ∧ u.dvu = s.dvu
      ∧ (c ≠ .ok → u.acu.records = s.acu.records)
      ∧ ((s.product e.product).direction.fits e.line = false → c = .range)
      ∧ ((s.product e.product).direction.fits e.line = true →
          (7 < e.product → c = .range)
          ∧ (e.product ≤ 7 → (s.product e.product).enabled = false → c = .disabled)
          ∧ (e.product ≤ 7 → (s.product e.product).enabled = true → s.awardedNow e.product = false →
              c = .nothingAwarded)
          ∧ (e.product ≤ 7 → (s.product e.product).enabled = true → s.awardedNow e.product = true →
              e.fraction = Line.fraction e.line →
              (s.acu.record e.product = none → c = .ok ∧ u.acu.records = (s.acu.put
                ⟨e.product, e.fraction, 0, none, 0, Line.origin e.line⟩).records)
              ∧ (∀ a, s.acu.record e.product = some a → a.target = 0 →
                  a.cause = some .sustain ∨ a.cause = some .intervalEnd → c = .wrongState)
              ∧ (∀ a, s.acu.record e.product = some a → a.target = 0 → a.cause = some .deactivate →
                  c = .ok ∧ u.acu.records = (s.acu.put
                    { a with target := e.fraction, cause := none, origin := Line.origin e.line }).records)
              ∧ (∀ a, s.acu.record e.product = some a → a.target ≠ 0 → a.target ≠ e.fraction →
                  c = .ok ∧ u.acu.records = (s.acu.put
                    { a with target := e.fraction, origin := Line.origin e.line }).records)
              ∧ (∀ a, s.acu.record e.product = some a → a.target ≠ 0 → a.target = e.fraction →
                  c = .ok ∧ u.acu.records = (s.acu.put a).records)))

/-- ARM_TRIP and CONFIGURE_GRID (9.4, 9.5), taken on acceptance. -/
def Obligations.GridSettingsAreTaken : Prop :=
  ∀ (s : State) (k : Nat) (tag : Byte), s.supply = .running → s.freeSlot .grid = some k →
    (∀ (l : Line) (line product : Byte), line = (match l with | .uft => 0#8 | .oft => 1#8) →
      let r := Request.armTrip line product
      let run := exec (.armTrip .grid tag line product) s
      let fits := match (s.product product.toNat).direction, l with
        | .sym, _ => true
        | .up, .uft => true
        | .down, .oft => true
        | _, _ => false
      let line (o : Option Nat) : LineState := { s.acu.line l with armed := o }
      let armed (o : Option Nat) := Host.Outcome.next (State.choose
        (({ s with acu := s.acu.withLine l (line o) }).answered .grid k tag r .ok (.armed l o)))
      (product = 255#8 → run = armed none)
      ∧ (product ≠ 255#8 → 7 < product.toNat → run = .next (s.answered .grid k tag r .range .empty).choose)
      ∧ (product.toNat ≤ 7 → fits = false → run = .next (s.answered .grid k tag r .range .empty).choose)
      ∧ (product.toNat ≤ 7 → fits = true → run = armed (some product.toNat)))
    ∧ (∀ line product : Byte, 1 < line.toNat → exec (.armTrip .grid tag line product) s =
        .next (s.answered .grid k tag (.armTrip line product) .range .empty).choose)
    ∧ (∀ guard qualification : Byte, exec (.configureGrid .grid tag guard qualification) s =
        .next (State.choose (({ s with acu := { s.acu with
          guardTicks := min 50 guard.toNat, qualification := min 20 qualification.toNat } }).answered .grid k tag
            (.configureGrid guard qualification) .ok
            (.gridSettings (min 50 guard.toNat) (min 20 qualification.toNat)))))

/-! ### Transfers (chapter 12) -/

/-- A transfer's first byte chooses what it brings (12.1): a WRITE of the bytes after it, the two events of a READ, a LINK_RESET,
or nothing at all. WRITE (12.2): with four slots occupied it is discarded and LAST_WRITE_REFUSED set; else it takes a slot
(the lowest free one, log 20), and a frame that fails a check in the spec's order is answered at once. The frame of a request that the
port permits passes. -/
def Obligations.WriteTakesSlotOrIsRefused : Prop :=
  (∀ (s : State) (p : Port) (rest : List Byte),
    let brings (l : List Instr) : State := { s with pending := s.pending ++ l }
    s.receive p (0xA1#8 :: rest) = brings [.write p rest]
    ∧ s.receive p (0xA2#8 :: rest) = brings [.read p .typeByte, .read p (.finish rest.length)]
    ∧ s.receive p (0xA5#8 :: rest) = brings [.linkReset p]
    ∧ (∀ b : Byte, b ≠ 0xA1#8 → b ≠ 0xA2#8 → b ≠ 0xA5#8 → s.receive p (b :: rest) = s)
    ∧ s.receive p [] = s)
  ∧ ∀ (s : State) (p : Port) (bytes : List Byte), s.supply = .running →
    let x : PortState := { s.port p with reading := none, miso := .dontCare }
    let run := exec (.write p bytes) s
    ((∀ k, k < 4 → (Table.get none x.slots k).isSome) →
      run = .next (s.withPort p { x with lastWriteRefused := true }).choose)
    ∧ ∀ k, k < 4 → Table.get none x.slots k = none → (∀ j, j < k → (Table.get none x.slots j).isSome) →
      let t := s.withPort p
        { x with slots := Table.set none x.slots k (some (bytes.take 300)), lastWriteRefused := false }
      let refused (kind tag : Byte) (c : Status) := Host.Outcome.next (t.complete p ⟨k, kind, tag, c, .empty⟩).choose
      (bytes.length < 4 → run = refused 0#8 0#8 .malformed)
      ∧ (∀ (a b kind tag : Byte) (body : List Byte), bytes = a :: b :: kind :: tag :: body →
          let n := a.toNat + 256 * b.toNat
          let known := ∃ r : Request, requestCode r = kind
          let allowed := ∃ r : Request, requestCode r = kind ∧ permitted p r = true
          (296 < n ∨ body.length ≠ n → run = refused kind tag .malformed)
          ∧ (n ≤ 296 → body.length = n → ¬known → run = refused kind tag .malformed)
          ∧ (n ≤ 296 → body.length = n → known → ¬allowed → run = refused kind tag .notPermitted)
          ∧ (n ≤ 296 → body.length = n → allowed →
              (∀ r : Request, r.presentable p = true → bytes ≠ requestFrame tag r) → run = refused kind tag .malformed))
      ∧ (∀ (tag : Byte) (r : Request), r.presentable p = true → bytes = requestFrame tag r →
          run = .next (t.accept p k tag r).choose)

/-- The check of a frame (12.2) accepts exactly the frames of the requests that the port permits, each as the request and
tag it spells: no bit of a field is lost. -/
def Obligations.FrameCheckAcceptsExactlyFrames : Prop :=
  ∀ (p : Port) (bytes : List Byte) (tag : Byte) (r : Request),
    checkFrame p bytes = .accepted tag r ↔ r.presentable p = true ∧ bytes = requestFrame tag r

/-- The kinds and the ports that permit them (TABLE 12(b)); the row of a request presented on another port is refused with
NOT_PERMITTED. -/
def Obligations.RowOnForeignPortIsNotPermitted : Prop :=
  (∀ (p : Port) (r : Request), permitted p r = decide (p ∈ match (requestCode r).toNat with
      | 0x01 | 0x02 | 0x03 | 0x04 | 0x05 | 0x06 | 0x07 | 0x08 => [Port.market]
      | 0x10 | 0x11 | 0x12 | 0x13 | 0x24 => [Port.market, Port.grid]
      | 0x20 | 0x21 | 0x22 | 0x23 | 0x25 | 0x26 => [Port.grid]
      | 0x38 => [Port.grid, Port.fleet]
      | 0x40 | 0x41 | 0x42 => [Port.market, Port.grid, Port.fleet]
      | _ => [Port.fleet]))
  ∧ ∀ (s : State) (p : Port) (k : Nat) (tag : Byte) (r : Request), s.supply = .running → s.freeSlot p = some k →
      r.wf = true → permitted p r = false →
      exec (commandOf p tag r) s = .next (s.answered p k tag r .notPermitted .empty).choose

/-- A request that the engine works, presented while a job is in progress, takes its slot and joins the tail of its class
(6.2); nothing else changes. An ADMISSION job goes on whatever its abandon count when the class joined is FLEET, BOOK or
ADMISSION (6.6); of requests, only an ACTIVATION order abandons one whose count is below 3 (see `ArrivalsMergeAndAbandon`), and joins so
where nothing is to abandon. -/
def Obligations.RequestWaitsAtTailOfItsClass : Prop :=
  ∀ (s : State) (p : Port) (k : Nat) (tag : Byte) (r : Request), s.supply = .running → s.eng.job ≠ none →
    s.freeSlot p = some k → r.presentable p = true →
    let x : Entry := ⟨p, k, tag, r, 0⟩
    let waits (e : Engine) := exec (commandOf p tag r) s = .next { s.taken p k tag r with eng := e }
    ((∃ a, r = .activate a) ∨ (∃ q, r = .deactivate q) → s.eng.held = true →
        waits { s.eng with activation := s.eng.activation ++ [.order x] })
    ∧ ((∃ a, r = .siteSet a) ∨ (∃ a, r = .groupSet a) ∨ (∃ a, r = .curveSet a) ∨ (∃ a, r = .forecast a) →
        waits { s.eng with fleet := s.eng.fleet ++ [x] })
    ∧ ((∃ a, r = .configureMarket a) ∨ (∃ a, r = .productSet a) ∨ (∃ a, r = .productRead a) ∨ (∃ a, r = .award a)
          ∨ (∃ a, r = .release a) ∨ r = .readSettlement ∨ (∃ a, r = .readCommitment a)
          ∨ (∃ a, r = .listCommitments a) ∨ (∃ a, r = .readDeficits a) ∨ (∃ a, r = .readGroup a) →
        waits { s.eng with book := s.eng.book ++ [x] })
    ∧ ((∃ a, r = .hold a) ∨ (∃ a, r = .queryHeadroom a) →
        waits { s.eng with admission := s.eng.admission ++ [x] })

/-- READ (12.3): the status byte, then the oldest completed reply or a zero length; the reply leaves and its slot is freed
if every byte has been clocked out by the end. The model also takes the two events of a READ apart (log 19, DEDUCED): the
type byte alone chooses, the end alone finishes what is chosen, and an end with no READ open changes nothing. -/
def Obligations.ReadReturnsOldestReply : Prop :=
  ∀ (s : State) (p : Port) (n : Nat), s.supply = .running →
    let x := s.port p
    let status : Byte := BitVec.ofNat 8 ((if x.replies = [] then 0 else 1)
      + (if (List.range 12).any (fun c => decide (0 < Table.get 0 x.notices c)) then 2 else 0) + (if x.lastWriteRefused = true then 4 else 0))
    let left (y : PortState) := Host.Outcome.next (s.withPort p y).choose
    (x.replies = [] → exec (.read p (.whole n)) s =
        left { x with reading := none, miso := .bytes ([status, 0#8, 0#8].take n) })
    ∧ (∀ z rest, x.replies = z :: rest →
        let sent := status :: replyFrame z
        (n < sent.length → exec (.read p (.whole n)) s =
            left { x with reading := none, miso := .bytes (sent.take n) })
        ∧ (sent.length ≤ n → exec (.read p (.whole n)) s =
            left { x with reading := none, miso := .bytes sent, replies := rest, slots := Table.set none x.slots z.slot none }))
    ∧ exec (.read p .typeByte) s = left { x with reading := some ⟨status, x.replies.head?⟩, miso := .dontCare }
    ∧ (x.reading = none → exec (.read p (.finish n)) s = left x)
    ∧ (∀ b, x.reading = some ⟨b, none⟩ → exec (.read p (.finish n)) s =
        left { x with reading := none, miso := .bytes ([b, 0#8, 0#8].take n) })
    ∧ (∀ b z, x.reading = some ⟨b, some z⟩ →
        let sent := b :: replyFrame z
        (n < sent.length → exec (.read p (.finish n)) s =
            left { x with reading := none, miso := .bytes (sent.take n) })
        ∧ (sent.length ≤ n → ∀ rest, x.replies = z :: rest → exec (.read p (.finish n)) s =
            left { x with reading := none, miso := .bytes sent, replies := rest, slots := Table.set none x.slots z.slot none }))

/-- LINK_RESET (12.7, 6.7): the port's link and its entries whose jobs have not started; its running job goes on as an
orphan, and every other job as it is.
The other ports and every other block stand. -/
def Obligations.LinkResetClearsOnePort : Prop :=
  ∀ (s : State) (p : Port), s.supply = .running → ∃ u : State, exec (.linkReset p) s = .next u.choose
    ∧ u.port p = ({
        slots := [], replies := [], lastWriteRefused := false, notices := [], mask := 0xFFF#12, threshold := 0,
        reading := none, miso := .dontCare } : PortState)
    ∧ u.attn p = false ∧ (∀ q, q ≠ p → u.port q = s.port q)
    ∧ (let mark (r : Running) : Running := if r.entry.port = p then ⟨r.entry, true⟩ else r
       u.eng.job = match s.eng.job with
        | some (.order r) => some (.order (mark r))
        | some (.fleet r) => some (.fleet (mark r))
        | some (.book r) => some (.book (mark r))
        | some (.admission r) => some (.admission (mark r))
        | j => j)
    ∧ u.eng = { s.eng with
        job := s.eng.job.map (Job.orphaned p)
        activation := s.eng.activation.filter (fun a => match a with
          | .order x => decide (x.port ≠ p)
          | .trip _ => true)
        fleet := s.eng.fleet.filter (fun x => decide (x.port ≠ p))
        book := s.eng.book.filter (fun x => decide (x.port ≠ p))
        admission := s.eng.admission.filter (fun x => decide (x.port ≠ p)) }
    ∧ u.supply = s.supply ∧ u.cause = s.cause ∧ u.mtu = s.mtu ∧ u.frg = s.frg ∧ u.tiu = s.tiu ∧ u.cgr = s.cgr
    ∧ u.cmt = s.cmt ∧ u.acu = s.acu ∧ u.dsp = s.dsp ∧ u.dvu = s.dvu

/-- The `job` form of a row (log 5): a request's job in progress is worked to its end, its reply joins its port's completed
replies, or is discarded for an orphan (6.7), and the engine is free with the status copy taken (12.8). Where no job of
the row's kind is in progress it does nothing. -/
def Obligations.JobFormEndsJobInProgress : Prop :=
  ∀ (s : State) (r : Running) (c : Instr), s.supply = .running → jobOf r.entry.request = some c →
    let left (a : Answer) : State := if r.orphan then a.1
      else a.1.complete r.entry.port ⟨r.entry.slot, requestCode r.entry.request, r.entry.tag, a.2.1, a.2.2⟩
    (s.eng.job = some (.order r) ∨ s.eng.job = some (.fleet r) ∨ s.eng.job = some (.book r) →
        exec c s = .next (left (requestWork r.entry.request s)).endJob.choose)
    ∧ (s.eng.job = some (.admission r) → exec c s = .next (left (admissionWork r.entry.request s)).endJob.choose)
    ∧ ((∀ x : Running, s.eng.job = some (.order x) ∨ s.eng.job = some (.fleet x) ∨ s.eng.job = some (.book x)
          ∨ s.eng.job = some (.admission x) → requestCode x.entry.request ≠ requestCode r.entry.request) →
        exec c s = .next s.choose)
    ∧ (s.eng.job = none → exec c s = .next s.choose)
    ∧ (∀ u : State, u.endJob = { u with eng := { u.eng with
        job := none
        scratch := none
        copy := ⟨u.eng.bookInterval.getD 0, u.cmt.records.length, u.cmt.queue.length, u.cgr.deficits.length,
          u.cgr.overflow⟩ } })

/-! ### Requests that a block takes on acceptance -/

/-- READ_STATUS, READ_NOTICES and SET_ATTENTION on any port, and ATTN (12.5, 12.6, 12.8). -/
def Obligations.PortRequestsAndAttention : Prop :=
  (∀ (s : State) (p : Port) (k : Nat) (tag : Byte), s.supply = .running → s.freeSlot p = some k →
    exec (.readStatus p tag) s = .next (s.answered p k tag .readStatus .ok (.status {
        cause := s.cause, timeState := s.mtu.timeState, clock := s.mtu.clock, second := s.mtu.second,
        runSeconds := s.mtu.runSeconds, faults := s.mtu.faults, holdover := s.mtu.holdover,
        classInProgress := match s.eng.job with
          | none => 0
          | some (.order _) => 1
          | some (.trip _) => 1
          | some (.dispatch _ _) => 2
          | some (.rollover _) => 3
          | some (.rollup _) => 4
          | some (.fleet _) => 5
          | some (.book _) => 6
          | some (.admission _) => 7,
        dispatchFlag := s.eng.dispatch.flag, housekeepingFlag := s.eng.housekeeping.flag,
        rollupFlag := s.eng.rollup.flag, activationMerges := s.eng.activationMerges,
        dispatchMerges := s.eng.dispatch.merges, housekeepingMerges := s.eng.housekeeping.merges,
        rollupMerges := s.eng.rollup.merges, abandonTotal := s.eng.abandonTotal, copy := s.eng.copy,
        captureFull := s.dvu.capture.isSome })).choose
    ∧ exec (.readNotices p tag) s = .next (State.choose ((s.withPort p { s.port p with notices := [] }).answered p k tag
        .readNotices .ok (.notices (((List.range 12).map (fun c => (c, Table.get 0 (s.port p).notices c))).filter
          (fun e => decide (0 < e.2))))))
    ∧ ∀ (mask : Half) (threshold : Byte),
        let m : BitVec 12 := mask.extractLsb' 0 12
        let n := min 7 threshold.toNat
        exec (.setAttention p tag mask threshold) s = .next (State.choose ((s.withPort p { s.port p with
          mask := m, threshold := n }).answered p k tag (.setAttention mask threshold) .ok (.attention m n))))
  ∧ ∀ (s : State) (p : Port), s.attn p = true ↔ s.supply = .running ∧ ((s.port p).replies ≠ []
      ∨ ∃ n : Notice, 0 < s.count p n ∧ (s.port p).mask.getLsbD n.code = true ∧ (s.port p).threshold ≤ match n with
        | .timeState => 6
        | .trip => 7
        | .shortfall => 6
        | .deficit => 5
        | .sustainLimit => 5
        | .dispatchShort => 5
        | .activationEnded => 4
        | .setpointsChanged => 4
        | .holdExpired => 3
        | .settlement => 2
        | .staleSites => 2
        | .resetDone => 1)

/-- READ_ACTIVATIONS, READ_CAPTURE, CLEAR_CAPTURE, SETPOINT_CHANGES and READ_SETPOINTS (9.5, 10.6, 11.6): formed at the
event that takes them. -/
def Obligations.ReadingsAreFormedAtAcceptance : Prop :=
  ∀ (s : State) (k : Nat) (tag : Byte), s.supply = .running →
    (∀ p, p ≠ .fleet → s.freeSlot p = some k → exec (.readActivations p tag) s =
        .next (s.answered p k tag .readActivations .ok (.activations s.acu)).choose)
    ∧ (s.freeSlot .grid = some k →
        exec (.readCapture .grid tag) s = .next (s.answered .grid k tag .readCapture .ok (.capture s.dvu)).choose
        ∧ exec (.clearCapture .grid tag) s = .next (State.choose
            (({ s with dvu := ⟨none, 0⟩ }).answered .grid k tag .clearCapture .ok (.capture s.dvu))))
    ∧ (s.freeSlot .fleet = some k →
        let row (i : Nat) : SetpointRow := ⟨i, s.dsp.setpoint i, decide (i ∈ s.dsp.dirty)⟩
        exec (.setpointChanges .fleet tag) s = .next (State.choose
          (({ s with dsp := { s.dsp with dirty := s.dsp.dirty.drop 32 } }).answered .fleet k tag .setpointChanges .ok
            (.setpointChanges s.dsp.sequence ((s.dsp.dirty.take 32).map row) (decide (32 < s.dsp.dirty.length)))))
        ∧ ∀ (first : Half) (count : Byte),
            let r := Request.readSetpoints first count
            (4095 < first.toNat ∨ count.toNat = 0 ∨ 64 < count.toNat → exec (.readSetpoints .fleet tag first count) s =
              .next (s.answered .fleet k tag r .range .empty).choose)
            ∧ (first.toNat ≤ 4095 → 1 ≤ count.toNat → count.toNat ≤ 64 → exec (.readSetpoints .fleet tag first count) s =
              .next (s.answered .fleet k tag r .ok (.setpoints s.dsp.sequence first.toNat
                ((List.range' first.toNat (min count.toNat (4096 - first.toNat))).map row))).choose))

/-- TELEMETRY and CONFIGURE_FLEET (4.2, 4.3): the last report of each site that exists is stored, clamped and stamped with
run seconds, and ROLLUP is raised; a fleet setting is clamped, and a changed stale limit raises ROLLUP. -/
def Obligations.TelemetryAndFleetSettingsAreStored : Prop :=
  ∀ (s : State) (k : Nat) (tag : Byte), s.supply = .running → s.freeSlot .fleet = some k →
    (∀ reports : List Report, 1 ≤ reports.length → reports.length ≤ 32 →
      let stored := (reports.filter (fun r => decide (r.site.toNat ≤ 4095))).length
      ∃ raw : Table (Option RawTelemetry),
        exec (.telemetry .fleet tag reports) s = .next (State.choose
          (({ s with tiu := { s.tiu with raw := raw } }).raiseRollup.answered .fleet k tag (.telemetry reports) .ok
            (.telemetry stored (reports.length - stored))))
        ∧ ∀ i, Table.get none raw i = match reports.reverse.find? (fun r => r.site.toNat == i) with
          | some r => if i ≤ 4095 then
              some ⟨min 1000 r.soc.toNat, decide (r.status = 1#8), r.measured.toInt, s.mtu.runSeconds⟩ else Table.get none s.tiu.raw i
          | none => Table.get none s.tiu.raw i)
    ∧ ∀ limit period : Half,
      let l := min 600 (max 1 limit.toNat)
      let p := min 60 (max 1 period.toNat)
      let t : State := { s with tiu := { s.tiu with staleLimit := l, rollupPeriod := p } }
      exec (.configureFleet .fleet tag limit period) s = .next (State.choose
        ((if l = s.tiu.staleLimit then t else t.raiseRollup).answered .fleet k tag (.configureFleet limit period) .ok
          (.fleetSettings l p)))

/-! ### Requests that the engine works, presented to a part whose engine is free -/

/-- CONFIGURE_MARKET (2.5): its checks in their order; an accepted request clamps and writes the five settings, and a change
of margin or near window rescans the horizon. The reply carries the settings in force. -/
def Obligations.ConfigureMarketChecksAndClamps : Prop :=
  ∀ (s : State) (k : Nat) (tag : Byte) (a : MarketArgs), s.ready = true → s.freeSlot .market = some k →
    let old := s.eng.settings
    let new : Settings := ⟨a.length.toNat, a.lead.toNat, a.near.toNat, min 64 a.margin.toNat,
      min 3600 (max 10 a.holdover.toNat)⟩
    let inRange := (new.length = 300 ∨ new.length = 900 ∨ new.length = 1800 ∨ new.length = 3600)
      ∧ 1 ≤ new.lead ∧ new.lead ≤ 8 ∧ new.near ≤ 3
    let frozen := s.mtu.timeState ≠ .unset ∧ (new.length ≠ old.length ∨ new.lead ≠ old.lead)
    let run := exec (.configureMarket (.request .market tag a)) s
    let ends (u : State) (c : Status) (x : Settings) := Host.Outcome.next
      (u.answered .market k tag (.configureMarket a) c (.settings x)).endJob
    let t : State := { s with eng := { s.eng with settings := new } }
    (¬inRange → run = ends s .range old)
    ∧ (inRange → frozen → run = ends s .wrongState old)
    ∧ (inRange → ¬frozen → new.margin = old.margin → new.near = old.near → run = ends t .ok new)
    ∧ (inRange → ¬frozen → new.margin ≠ old.margin ∨ new.near ≠ old.near → run = ends t.rescanAll .ok new)

/-- PRODUCT_SET (2.4): its checks in their order; an accepted request replaces the record. An enabled byte other than 0
and 1 is taken as out of range (log 10). -/
def Obligations.ProductSetReplacesUnreferencedRecord : Prop :=
  ∀ (s : State) (k : Nat) (tag : Byte) (a : ProductArgs), s.ready = true → s.freeSlot .market = some k →
    let p := a.product.toNat
    let referenced := (∃ x ∈ s.cmt.records, x.product = p ∧ (x.state = .held ∨ x.state = .awarded))
      ∨ (s.acu.record p).isSome ∨ s.acu.uft.armed = some p ∨ s.acu.oft.armed = some p
    let inRange := 1 ≤ a.direction.toNat ∧ a.direction.toNat ≤ 3 ∧ 1 ≤ a.fullTicks.toNat ∧ a.fullTicks.toNat ≤ 3000
      ∧ a.verifyDelay.toNat ≤ 600 ∧ 1 ≤ a.sustain.toNat ∧ a.sustain.toNat ≤ 240 ∧ 1 ≤ a.minimum.toNat
      ∧ 1 ≤ a.step.toNat ∧ a.step.toNat ≤ a.minimum.toNat ∧ a.tolerance.toNat ≤ 500 ∧ a.enabled.toNat ≤ 1
    let new : Product := {
      direction := if a.direction = 1#8 then .up else if a.direction = 2#8 then .down else .sym
      fullTicks := a.fullTicks.toNat
      verifyDelay := a.verifyDelay.toNat
      sustain := a.sustain.toNat
      minimum := a.minimum.toNat
      step := a.step.toNat
      tolerance := a.tolerance.toNat
      enabled := decide (a.enabled = 1#8) }
    let run := exec (.productSet (.request .market tag a)) s
    let ends (u : State) (c : Status) (b : ReplyBody) := Host.Outcome.next
      (u.answered .market k tag (.productSet a) c b).endJob
    (7 < p → run = ends s .range .empty)
    ∧ (p ≤ 7 → referenced → run = ends s .inUse (.product (s.productReport p)))
    ∧ (p ≤ 7 → ¬referenced → ¬inRange → run = ends s .range .empty)
    ∧ (p ≤ 7 → ¬referenced → inRange → run =
        ends { s with cmt := { s.cmt with products := Table.set {} s.cmt.products p new } } .ok
          (.product ⟨p, new, 0, 0, false, false, false⟩))

/-- PRODUCT_READ, READ_COMMITMENT, LIST_COMMITMENTS, READ_DEFICITS and READ_GROUP (2.4, 7.4, 5.6, 3.8): each is formed in its
job and changes nothing but the reply. -/
def Obligations.BookReadingsReport : Prop :=
  ∀ (s : State) (p : Port) (k : Nat) (tag : Byte), s.ready = true → s.freeSlot p = some k →
    let ends (r : Request) (c : Status) (b : ReplyBody) := Host.Outcome.next (s.answered p k tag r c b).endJob
    (p ≠ .fleet →
      (∀ product : Byte,
        let n := product.toNat
        let counted (st : CommitState) := (s.cmt.records.filter (fun x => decide (x.product = n ∧ x.state = st))).length
        (7 < n → exec (.productRead (.request p tag product)) s = ends (.productRead product) .range .empty)
        ∧ (n ≤ 7 → exec (.productRead (.request p tag product)) s = ends (.productRead product) .ok
            (.product ⟨n, s.product n, counted .held, counted .awarded, (s.acu.record n).isSome,
              decide (s.acu.uft.armed = some n), decide (s.acu.oft.armed = some n)⟩)))
      ∧ (∀ id : Half,
        let run := exec (.readCommitment (.request p tag id)) s
        (511 < id.toNat → run = ends (.readCommitment id) .range .empty)
        ∧ (id.toNat ≤ 511 → s.cmt.record id.toNat = none → run = ends (.readCommitment id) .unknown .empty)
        ∧ (∀ x, id.toNat ≤ 511 → s.cmt.record id.toNat = some x → run = ends (.readCommitment id) .ok (.commitment x)))
      ∧ (∀ a : ListArgs,
        let run := exec (.listCommitments (.request p tag a)) s
        let found := s.cmt.records.filter (fun x => decide (a.start.toNat ≤ x.id ∧ (a.filter.toNat = 0
          ∨ a.filter.toNat = match x.state with
            | .held => 1
            | .awarded => 2
            | .settling => 3)))
        (3 < a.filter.toNat ∨ 511 < a.start.toNat → run = ends (.listCommitments a) .range .empty)
        ∧ (a.filter.toNat ≤ 3 → a.start.toNat ≤ 511 → found.length ≤ 32 →
            run = ends (.listCommitments a) .ok (.list found 512))
        ∧ (∀ x, a.filter.toNat ≤ 3 → a.start.toNat ≤ 511 → 32 < found.length → found[31]? = some x →
            run = ends (.listCommitments a) .ok (.list (found.take 32) (x.id + 1))))
      ∧ ∀ start : Byte,
        let run := exec (.readDeficits (.request p tag start)) s
        (63 < start.toNat → run = ends (.readDeficits start) .range .empty)
        ∧ (start.toNat ≤ 63 → run = ends (.readDeficits start) .ok (.deficits (s.eng.bookInterval.getD 0)
            s.cgr.deficits.length s.cgr.overflow start.toNat ((s.cgr.deficits.drop start.toNat).take 32))))
    ∧ (p ≠ .market → ∀ group : Byte,
        let g := group.toNat
        let run := exec (.readGroup (.request p tag group)) s
        (63 < g → run = ends (.readGroup group) .range .empty)
        ∧ (g ≤ 63 → run = ends (.readGroup group) .ok
            (.group g (s.frg.group g) (s.frg.sites.filter (fun e => decide (e.2.group = some g))).length
              (s.tiu.group g) (s.dsp.group g))))

/-- HOLD (8.1 to 8.3): every refusal, in the order of its checks, with the figures of SHORT. Nothing changes but the reply.
And at the end of a job in progress (6.6, 8.4): a refusal of its computing phase goes to the reply (in the model at the job's
end, log 23); one that found its shares is refused where the time state has left LOCKED and HOLDOVER since, or the gate has
closed on its first interval. An orphan's reply is discarded (6.7). -/
def Obligations.HoldRefusesInOrder : Prop :=
  (∀ (s : State) (r : Running) (a : HoldArgs) (x : Scratch), s.supply = .running → s.eng.job = some (.admission r) →
    r.entry.request = .hold a → s.eng.scratch = some x →
    let pr := s.product a.product.toNat
    let total := totalHeadroom x.selected
    let sold := total / pr.step * pr.step
    let commerce := s.mtu.timeState = .locked ∨ s.mtu.timeState = .holdover
    let refused (c : Status) (b : ReplyBody) := exec (.hold .job) s = .next (State.choose (State.endJob
      (if r.orphan then s else s.complete r.entry.port ⟨r.entry.slot, 0x04#8, r.entry.tag, c, b⟩)))
    (∀ c, x.refusal = some c → c ≠ .short → refused c .empty)
    ∧ (x.refusal = some .short → refused .short (.short total (if sold < pr.minimum then 0 else sold)
        (x.considered.filter (fun h => decide (1 ≤ h.power))).length))
    ∧ (x.refusal = none → ¬commerce → refused .wrongState .empty)
    ∧ (x.refusal = none → commerce → a.first.toNat ≤ s.mtu.clock + s.eng.settings.lead → refused .gateClosed .empty))
  ∧ ∀ (s : State) (k : Nat) (tag : Byte) (a : HoldArgs), s.ready = true → s.freeSlot .market = some k →
    let pr := s.product a.product.toNat
    let q := a.quantity.toNat
    let first := a.first.toNat
    let count := a.count.toNat
    let considered := (s.zoneGroups a.zone.toNat).map (s.groupHeadroom pr first count)
    let total := totalHeadroom (selectGroups considered)
    let sold := total / pr.step * pr.step
    let c1 := s.mtu.timeState = .locked ∨ s.mtu.timeState = .holdover
    let c2 := a.product.toNat ≤ 7
    let c3 := pr.enabled = true
    let c4 := 1 ≤ count ∧ count ≤ 16 ∧ a.zone.toNat ≤ 15 ∧ pr.minimum ≤ q ∧ q % pr.step = 0
    let c5 := s.mtu.clock + s.eng.settings.lead < first
    let c6 := ∃ b, s.eng.bookInterval = some b ∧ first + count - 1 ≤ b + 95
    let c7 := ∃ i, i < 512 ∧ s.cmt.record i = none ∧ ∀ x ∈ s.cmt.queue, x.id = i → x.issue ≠ s.cmt.issue i
    let refused (c : Status) := exec (.hold (.request .market tag a)) s =
      .next (s.answered .market k tag (.hold a) c .empty).endJob
    (¬c1 → refused .wrongState)
    ∧ (c1 → ¬c2 → refused .range)
    ∧ (c1 → c2 → ¬c3 → refused .disabled)
    ∧ (c1 → c2 → c3 → ¬c4 → refused .range)
    ∧ (c1 → c2 → c3 → c4 → ¬c5 → refused .gateClosed)
    ∧ (c1 → c2 → c3 → c4 → c5 → ¬c6 → refused .range)
    ∧ (c1 → c2 → c3 → c4 → c5 → c6 → ¬c7 → refused .tableFull)
    ∧ (c1 → c2 → c3 → c4 → c5 → c6 → c7 → total < q → exec (.hold (.request .market tag a)) s =
        .next (s.answered .market k tag (.hold a) .short (.short total (if sold < pr.minimum then 0 else sold)
          (considered.filter (fun h => decide (1 ≤ h.power))).length)).endJob)

/-- HOLD (8.3, 8.4): one that passes every check, and finds headroom for its quantity, creates a HELD record at the lowest
eligible id with shares by largest remainder among the selected groups, and adds their loads. A job in progress (6.6, 8.4)
whose re-checks of the time state and the gate pass commits so with the shares its computing phase found; an orphan's record
stands and its reply is discarded (6.7). -/
def Obligations.HoldCommitsHeldRecord : Prop :=
  (∀ (s : State) (r : Running) (a : HoldArgs) (x : Scratch) (id : Nat), s.supply = .running →
    s.eng.job = some (.admission r) → r.entry.request = .hold a → s.eng.scratch = some x → x.refusal = none →
    let eligible (i : Nat) := s.cmt.record i = none ∧ ∀ y ∈ s.cmt.queue, y.id = i → y.issue ≠ s.cmt.issue i
    s.mtu.timeState = .locked ∨ s.mtu.timeState = .holdover → s.mtu.clock + s.eng.settings.lead < a.first.toNat →
    id < 512 → eligible id → (∀ j, j < id → ¬eligible j) →
    let n : Commitment := {
      id := id
      issue := s.cmt.issue id
      state := .held
      product := a.product.toNat
      zone := a.zone.toNat
      first := a.first.toNat
      count := a.count.toNat
      quantity := a.quantity.toNat
      shares := x.shares
      snapshot := none
      shortfalls := 0
      figures := none }
    let u := State.addLoads { s with cmt := { s.cmt with
      records := insertBy (fun y z => decide (y.id < z.id)) n s.cmt.records } } n
    exec (.hold .job) s = .next (State.choose (State.endJob (if r.orphan then u else u.complete r.entry.port
      ⟨r.entry.slot, 0x04#8, r.entry.tag, .ok, .shares id (s.cmt.issue id) a.quantity.toNat x.shares⟩))))
  ∧ ∀ (s : State) (k : Nat) (tag : Byte) (a : HoldArgs) (b id : Nat), s.ready = true → s.freeSlot .market = some k →
    let pr := s.product a.product.toNat
    let q := a.quantity.toNat
    let chosen := selectGroups ((s.zoneGroups a.zone.toNat).map (s.groupHeadroom pr a.first.toNat a.count.toNat))
    let eligible (i : Nat) := s.cmt.record i = none ∧ ∀ x ∈ s.cmt.queue, x.id = i → x.issue ≠ s.cmt.issue i
    s.mtu.timeState = .locked ∨ s.mtu.timeState = .holdover → a.product.toNat ≤ 7 → pr.enabled = true →
    1 ≤ a.count.toNat → a.count.toNat ≤ 16 → a.zone.toNat ≤ 15 → pr.minimum ≤ q → q % pr.step = 0 →
    s.mtu.clock + s.eng.settings.lead < a.first.toNat → s.eng.bookInterval = some b →
    a.first.toNat + a.count.toNat - 1 ≤ b + 95 → id < 512 → eligible id → (∀ j, j < id → ¬eligible j) →
    q ≤ totalHeadroom chosen →
    let r : Commitment := {
      id := id
      issue := s.cmt.issue id
      state := .held
      product := a.product.toNat
      zone := a.zone.toNat
      first := a.first.toNat
      count := a.count.toNat
      quantity := q
      shares := allocate q (totalHeadroom chosen) (chosen.map (fun h => (h.group, h.power)))
      snapshot := none
      shortfalls := 0
      figures := none }
    exec (.hold (.request .market tag a)) s = .next ((State.addLoads { s with cmt := { s.cmt with
      records := insertBy (fun x y => decide (x.id < y.id)) r s.cmt.records } } r).answered .market k tag (.hold a) .ok
        (.shares id (s.cmt.issue id) q r.shares)).endJob

/-- QUERY_HEADROOM (8.5): its checks in their order, and the figures it reports; it changes nothing but the reply. -/
def Obligations.QueryHeadroomReports : Prop :=
  ∀ (s : State) (k : Nat) (tag : Byte) (a : QueryArgs), s.ready = true → s.freeSlot .market = some k →
    let pr := s.product a.product.toNat
    let first := a.first.toNat
    let count := a.count.toNat
    let considered := (s.zoneGroups a.zone.toNat).map (s.groupHeadroom pr first count)
    let chosen := selectGroups considered
    let total := totalHeadroom chosen
    let sold := min total 65535 / pr.step * pr.step
    let c1 := a.product.toNat ≤ 7
    let c2 := pr.direction ≠ .none
    let c3 := 1 ≤ count ∧ count ≤ 16 ∧ a.zone.toNat ≤ 15
    let ends (c : Status) (x : ReplyBody) := exec (.queryHeadroom (.request .market tag a)) s =
      .next (s.answered .market k tag (.queryHeadroom a) c x).endJob
    (¬c1 → ends .range .empty)
    ∧ (c1 → ¬c2 → ends .disabled .empty)
    ∧ (c1 → c2 → ¬c3 → ends .range .empty)
    ∧ (c1 → c2 → c3 → s.eng.bookInterval = none → ends .range .empty)
    ∧ ∀ b, c1 → c2 → c3 → s.eng.bookInterval = some b →
      (first < b ∨ b + 95 < first + count - 1 → ends .range .empty)
      ∧ (b ≤ first → first + count - 1 ≤ b + 95 →
          let gate : GateStatus := if first < s.mtu.clock then .past else if first = s.mtu.clock then .delivery
            else if first ≤ s.mtu.clock + s.eng.settings.lead then .closed else .open
          ends .ok (.headroom s.mtu.clock b gate considered.length
            (considered.filter (fun h => decide (1 ≤ h.power))).length chosen total
            (if sold < pr.minimum then 0 else sold)))

/-- AWARD (8.6): its checks in their order; an award of 0 removes the record as a release does, and another reduces its
shares by largest remainder, lowers its loads by the difference of the contributions and rescans their entries. Each load of
the horizon afterwards reads as it did less what its group's share gave up; every other load and forecast stands. -/
def Obligations.AwardChecksAndReduces : Prop :=
  ∀ (s : State) (k : Nat) (tag : Byte) (a : AwardArgs), s.ready = true → s.freeSlot .market = some k →
    let id := a.id.toNat
    let q := a.quantity.toNat
    let run := exec (.award (.request .market tag a)) s
    let refused (c : Status) := run = .next (s.answered .market k tag (.award a) c .empty).endJob
    let granted (u : State) (n : Nat) (l : List Share) := run =
      .next (u.answered .market k tag (.award a) .ok (.shares id a.issue n l)).endJob
    ((511 < id ∨ s.cmt.record id = none ∨ ∃ x, s.cmt.record id = some x ∧ x.issue ≠ a.issue) → refused .unknown)
    ∧ ∀ x, id ≤ 511 → s.cmt.record id = some x → x.issue = a.issue →
      let pr := s.product x.product
      let commerce := s.mtu.timeState = .locked ∨ s.mtu.timeState = .holdover
      let isOpen := s.mtu.clock + s.eng.settings.lead < x.first
        ∧ ∃ b, s.eng.bookInterval = some b ∧ x.first ≤ b + 95
      let fits := q ≤ x.quantity ∧ pr.minimum ≤ q ∧ q % pr.step = 0
      let n : Commitment := { x with
        state := .awarded
        quantity := q
        shares := allocate q x.quantity (x.shares.map (fun y => (y.group, y.power))) }
      let fall (y : Share) : Quad := (contribution pr y.power).sub (contribution pr (n.shareIn y.group))
      let lower := s.changeLoads x.first x.count x.shares fall Quad.sub
      let loads (given : Nat → Quad) : Prop := x.shares.Pairwise (fun y z => y.group < z.group) →
        (∀ y ∈ x.shares, y.group < 64) → ∀ t b g i, run = .next t → s.eng.bookInterval = some b → g < 64 → b ≤ i →
        i < b + 96 → t.cgr.entry g i = ⟨(s.cgr.entry g i).forecast,
          if x.first ≤ i ∧ i < x.first + x.count then (s.cgr.entry g i).load.sub (given g) else (s.cgr.entry g i).load⟩
      (x.state ≠ .held → refused .wrongState)
      ∧ (x.state = .held → ¬commerce → refused .wrongState)
      ∧ (x.state = .held → commerce → ¬isOpen → refused .gateClosed)
      ∧ (x.state = .held → commerce → isOpen → q = 0 → granted (s.dropCommitment x) 0 []
          ∧ loads (fun g => contribution pr (x.shareIn g)))
      ∧ (x.state = .held → commerce → isOpen → q ≠ 0 → ¬fits → refused .range)
      ∧ (x.state = .held → commerce → isOpen → q ≠ 0 → fits → granted (State.rescan
          { lower with cmt := { s.cmt with records := s.cmt.records.map (fun y => if y.id = id then n else y) } }
          (s.sharePairs x.first x.count x.shares)) q n.shares
          ∧ loads (fun g => (contribution pr (x.shareIn g)).sub (contribution pr (n.shareIn g))))

/-- RELEASE (7.3): its checks in their order; a record that passes leaves the table and its id's issue counter advances, its
loads are subtracted and their entries rescanned: each load of the horizon afterwards reads as it did less what its group's
share contributed, and every other load and forecast stands. -/
def Obligations.ReleaseRemovesRecord : Prop :=
  (∀ (s : State) (k : Nat) (tag : Byte) (a : ReleaseArgs), s.ready = true → s.freeSlot .market = some k →
    let id := a.id.toNat
    let run := exec (.release (.request .market tag a)) s
    let refused (c : Status) := run = .next (s.answered .market k tag (.release a) c .empty).endJob
    ((511 < id ∨ s.cmt.record id = none ∨ ∃ x, s.cmt.record id = some x ∧ x.issue ≠ a.issue) → refused .unknown)
    ∧ ∀ x, id ≤ 511 → s.cmt.record id = some x → x.issue = a.issue →
      let commerce := s.mtu.timeState = .locked ∨ s.mtu.timeState = .holdover
      let isOpen := s.mtu.clock + s.eng.settings.lead < x.first
        ∧ ∃ b, s.eng.bookInterval = some b ∧ x.first ≤ b + 95
      let released := run = .next ((s.dropCommitment x).answered .market k tag (.release a) .ok
        (.released id a.issue x.state)).endJob
      (x.state = .settling → refused .wrongState)
      ∧ (x.state = .held → released)
      ∧ (x.state = .awarded → ¬commerce → refused .wrongState)
      ∧ (x.state = .awarded → commerce → ¬isOpen → refused .gateClosed)
      ∧ (x.state = .awarded → commerce → isOpen → released))
  ∧ ∀ (s : State) (x : Commitment),
      let t := s.dropCommitment x
      let u : State := { s.subtractLoads x with cmt := t.cmt }
      t.cmt.records = s.cmt.records.filter (fun y => decide (y.id ≠ x.id))
      ∧ (∀ i, t.cmt.issue i = if i = x.id then s.cmt.issue i + 1#8 else s.cmt.issue i)
      ∧ t.cmt.products = s.cmt.products ∧ t.cmt.queue = s.cmt.queue
      ∧ t = u.rescan (s.sharePairs x.first x.count x.shares)
      ∧ (x.shares.Pairwise (fun y z => y.group < z.group) → (∀ y ∈ x.shares, y.group < 64) →
          ∀ b g i, s.eng.bookInterval = some b → g < 64 → b ≤ i → i < b + 96 →
            t.cgr.entry g i = ⟨(s.cgr.entry g i).forecast,
              if x.first ≤ i ∧ i < x.first + x.count then
                (s.cgr.entry g i).load.sub (contribution (s.product x.product) (x.shareIn g))
              else (s.cgr.entry g i).load⟩)

/-- READ_SETTLEMENT (7.6): up to 4 records leave the queue, and the SETTLING commitments, by last interval then id, take the
places freed; the reply counts what then remains. -/
def Obligations.ReadSettlementRefillsQueue : Prop :=
  ∀ (s : State) (k : Nat) (tag : Byte), s.ready = true → s.freeSlot .market = some k → s.BookInv →
    let out := s.cmt.queue.take 4
    ∃ (moving : List Commitment) (u : State),
      exec (.readSettlement (.request .market tag ())) s = .next (u.answered .market k tag .readSettlement .ok
        (.settlements out u.cmt.queue.length (s.cmt.records.countP (fun x => x.state == .settling) - moving.length))).endJob
      ∧ moving.length = min out.length (s.cmt.records.countP (fun x => x.state == .settling))
      ∧ (∀ x ∈ moving, x ∈ s.cmt.records ∧ x.state = .settling)
      ∧ moving.Pairwise (fun x y => x.last < y.last ∨ (x.last = y.last ∧ x.id < y.id))
      ∧ (∀ x ∈ moving, ∀ y ∈ s.cmt.records, y.state = .settling → y ∉ moving →
          x.last < y.last ∨ (x.last = y.last ∧ x.id < y.id))
      ∧ u = { s with cmt := u.cmt } ∧ u.cmt.products = s.cmt.products
      ∧ u.cmt.queue = s.cmt.queue.drop 4 ++ moving.map (fun x => {
          id := x.id, issue := x.issue, product := x.product, first := x.first, count := x.count, quantity := x.quantity,
          energy := (x.figures.getD ⟨0, 0#32⟩).energy, activeTicks := (x.figures.getD ⟨0, 0#32⟩).activeTicks,
          shortfalls := x.shortfalls })
      ∧ u.cmt.records = s.cmt.records.filter (fun x => decide (x ∉ moving))
      ∧ ∀ i, u.cmt.issue i = if ∃ x ∈ moving, x.id = i then s.cmt.issue i + 1#8 else s.cmt.issue i

/-- SITE_SET, GROUP_SET and CURVE_SET (3.4 to 3.6): their checks in their order, what is clamped and written, and the ROLLUP
trigger raised as the job ends. -/
def Obligations.RegistryIsSetAndRollupRaised : Prop :=
  ∀ (s : State) (k : Nat) (tag : Byte), s.ready = true → s.freeSlot .fleet = some k →
    let refused (r : Request) (c : Status) (b : ReplyBody) := Host.Outcome.next (s.answered .fleet k tag r c b).endJob
    let wrote (f : Registry) (r : Request) (b : ReplyBody) := Host.Outcome.next
      ((State.raiseRollup { s with frg := f }).answered .fleet k tag r .ok b).endJob.choose
    (∀ a : SiteArgs,
      let run := exec (.siteSet (.request .fleet tag a)) s
      let x : SiteReg := {
        group := if a.group = 255#8 then none else some a.group.toNat
        energy := min 2000 (max 1 a.energy.toNat)
        discharge := min 1000 a.discharge.toNat
        charge := min 1000 a.charge.toNat
        floor := min 1000 a.floor.toNat }
      (4095 < a.site.toNat ∨ (63 < a.group.toNat ∧ a.group ≠ 255#8) → run = refused (.siteSet a) .range .empty)
      ∧ (a.site.toNat ≤ 4095 → a.group.toNat ≤ 63 ∨ a.group = 255#8 → run =
          wrote { s.frg with sites := Table.set {} s.frg.sites a.site.toNat x } (.siteSet a) (.site x)))
    ∧ (∀ a : GroupArgs,
      let run := exec (.groupSet (.request .fleet tag a)) s
      let g := a.group.toNat
      let inRange := g ≤ 63 ∧ a.zone.toNat ≤ 15 ∧ a.curveClass.toNat ≤ 3
      let carries (x : Commitment) : Prop := ∃ y ∈ x.shares, y.group = g
      let used := ∃ x ∈ s.cmt.records, (x.state = .held ∨ x.state = .awarded) ∧ carries x
      let counted (st : CommitState) := (s.cmt.records.filter (fun x => decide (x.state = st ∧ carries x))).length
      let x : GroupReg := ⟨a.zone.toNat, a.curveClass.toNat, min 1000 a.ceiling.toNat⟩
      (¬inRange → run = refused (.groupSet a) .range .empty)
      ∧ (inRange → a.zone.toNat ≠ (s.frg.group g).zone → used → run =
          refused (.groupSet a) .inUse (.groupSet (s.frg.group g) (counted .held) (counted .awarded)))
      ∧ (inRange → a.zone.toNat = (s.frg.group g).zone ∨ ¬used → run =
          wrote { s.frg with groups := Table.set {} s.frg.groups g x } (.groupSet a)
            (.groupSet x (counted .held) (counted .awarded))))
    ∧ (∀ a : CurveArgs, a.values.length = 16 →
      let run := exec (.curveSet (.request .fleet tag a)) s
      let v := a.values.map (fun y => min 256 y.toNat)
      (3 < a.curveClass.toNat ∨ 1 < a.direction.toNat → run = refused (.curveSet a) .range .empty)
      ∧ (a.curveClass.toNat ≤ 3 → a.direction.toNat ≤ 1 → run =
          wrote { s.frg with curves := Table.set flatCurve s.frg.curves (2 * a.curveClass.toNat + a.direction.toNat) v }
            (.curveSet a) (.curve a.curveClass.toNat (decide (a.direction = 1#8)) v)))

/-- FORECAST (5.3): its checks in their order; the forecasts of the named intervals are written, loads and every other entry
stand, the written entries are rescanned, and the reply carries the kinds their test finds. -/
def Obligations.ForecastWritesAndRescans : Prop :=
  ∀ (s : State) (k : Nat) (tag : Byte) (a : ForecastBody), s.ready = true → s.freeSlot .fleet = some k →
    1 ≤ a.entries.length → a.entries.length ≤ 16 →
    let g := a.group.toNat
    let first := a.first.toNat
    let n := a.entries.length
    let run := exec (.forecast (.request .fleet tag a)) s
    let refused := run = .next (s.answered .fleet k tag (.forecast a) .range .empty).endJob
    (63 < g ∨ s.eng.bookInterval = none → refused)
    ∧ ∀ b, g ≤ 63 → s.eng.bookInterval = some b →
      (first < b ∨ b + 95 < first + n - 1 → refused)
      ∧ (b ≤ first → first + n - 1 ≤ b + 95 → ∃ c : Grid,
          let t : State := { s with cgr := c }
          let u := t.rescan ((List.range' first n).map (fun i => (i, g)))
          run = .next (u.answered .fleet k tag (.forecast a) .ok
            (.forecast g first ((List.range' first n).map (fun i => t.kinds g i)) u.cgr.overflow)).endJob
          ∧ c.deficits = s.cgr.deficits ∧ c.overflow = s.cgr.overflow
          ∧ (∀ j e, a.entries[j]? = some e → c.entry g (first + j) = {
              forecast := ⟨e.pUp.toNat, e.pDn.toNat, e.eUp.toNat, e.eDn.toNat⟩
              load := (s.cgr.entry g (first + j)).load })
          ∧ ∀ h i, h < 64 → b ≤ i → i < b + 96 → h ≠ g ∨ i < first ∨ first + n ≤ i →
              c.entry h i = s.cgr.entry h i)

/-! ### The jobs of the trigger classes -/

/-- ROLLOVER, event by event (6.4, 7.5, log 4): the test between boundaries, and the stages other than completion and expiry.
The first ROLLOVER gives b the calendar origin and empties the ring. The sequence of the orders of stage 4, in ascending
product, is the model's choice (log 25). -/
def Obligations.RolloverWorksItsStages : Prop :=
  ∀ s : State, s.supply = .running →
    let at_ (st : RolloverStage) := s.eng.job = some (.rollover st)
    let goes (u : State) (st : RolloverStage) := exec (.rollover .event) s =
      .next { u with eng := { u.eng with job := some (.rollover st) } }
    (at_ .between → s.eng.bookInterval = none →
        goes { s with cgr := { s.cgr with ring := [] }, eng := { s.eng with bookInterval := some s.mtu.origin } } .between)
    ∧ (∀ b, at_ .between → s.eng.bookInterval = some b → b < s.mtu.clock → goes s (.completion s.acu.accounts))
    ∧ (∀ b, at_ .between → s.eng.bookInterval = some b → s.mtu.clock ≤ b →
        let t : State := { s with eng := { s.eng with housekeeping :=
          if s.eng.housekeeping.flag then ⟨false, min 255 (s.eng.housekeeping.merges + 1)⟩ else s.eng.housekeeping } }
        exec (.rollover .event) s = .next t.endJob.choose)
    ∧ (∀ a b, at_ (.retirement a) → s.eng.bookInterval = some b → ∃ c : Grid,
        goes { s with cgr := c, eng := { s.eng with bookInterval := some (b + 1) } } (.expiry a)
        ∧ c.deficits = s.cgr.deficits.filter (fun d => decide (d.interval ≠ b)) ∧ c.overflow = s.cgr.overflow
        ∧ (∀ g, g < 64 → c.entry g b = { forecast := ⟨0, 0, 0, 0⟩, load := ⟨0, 0, 0, 0⟩ })
        ∧ ∀ g i, g < 64 → b < i → i < b + 96 → c.entry g i = s.cgr.entry g i)
    ∧ (∀ a b, at_ (.support a) → s.eng.bookInterval = some b → goes s (.intervalEnd a
        ((s.acu.records.map (·.product)).filter (fun p => decide (¬∃ x ∈ s.cmt.records,
          x.product = p ∧ x.state = .awarded ∧ x.first ≤ b ∧ b ≤ x.last)))))
    ∧ (∀ a p ps, at_ (.intervalEnd a (p :: ps)) →
        let ended (r : Activation) : Activation :=
          if r.product = p then { r with target := 0, cause := some .intervalEnd } else r
        goes { s with acu := { s.acu with records := s.acu.records.map ended } } (.intervalEnd a ps))
    ∧ (∀ a, at_ (.intervalEnd a []) → goes s (.snapshots a))
    ∧ (∀ a b, at_ (.snapshots a) → s.eng.bookInterval = some b →
        let shot (x : Commitment) : Commitment :=
          if x.state = .awarded ∧ x.first = b then { x with snapshot := some (accountOf a x.product) } else x
        goes { s with cmt := { s.cmt with records := s.cmt.records.map shot } } .nearRescan)
    ∧ (∀ b, at_ .nearRescan → s.eng.bookInterval = some b →
        goes (s.rescan ((List.range 64).map (fun g => (b + s.eng.settings.near, g)))) .raise)
    ∧ (at_ .raise → goes { s with eng := { s.eng with dispatch := s.eng.dispatch.raised } } .between)

/-- ROLLOVER's completion and expiry stages (7.5): the AWARDED records that end with the interval retired leave, in
ascending id, for the settlement queue while it has room and become SETTLING after that, raising SETTLEMENT each; the HELD
records whose first interval is at or below b + G are removed, raising HOLD_EXPIRED each, and each load of the horizon reads
as it did less what their shares contributed to it. -/
def Obligations.RolloverCompletesAndExpires : Prop :=
  ∀ (s : State) (a : Table Account) (b : Nat), s.supply = .running → s.BookInv → s.eng.bookInterval = some b →
    let counted (n old : Nat) : Nat := if n = 0 then old else min 255 (old + n)
    (s.eng.job = some (.rollover (.completion a)) →
      let due := s.cmt.records.filter (fun x => decide (x.state = .awarded ∧ x.last = b))
      let room := 64 - s.cmt.queue.length
      let figures (x : Commitment) := settlementFigures x.quantity (x.snapshot.getD {}) (accountOf a x.product)
      ∃ u : State, exec (.rollover .event) s = .next u ∧ u.eng = { s.eng with job := some (.rollover (.retirement a)) }
        ∧ u.cmt.queue = s.cmt.queue ++ (due.take room).map (fun x => x.settled (figures x))
        ∧ u.cmt.records = (s.cmt.records.filter (fun x => decide (x ∉ due.take room))).map (fun x =>
            if x ∈ due then { x with state := .settling, figures := some (figures x) } else x)
        ∧ (∀ i, u.cmt.issue i = if ∃ x ∈ due.take room, x.id = i then s.cmt.issue i + 1#8 else s.cmt.issue i)
        ∧ u.cmt.products = s.cmt.products ∧ u.cgr = s.cgr ∧ u.acu = s.acu ∧ u.dsp = s.dsp ∧ u.mtu = s.mtu
        ∧ u.count .market .settlement = counted due.length (s.count .market .settlement))
    ∧ (s.eng.job = some (.rollover (.expiry a)) →
      let due := s.cmt.records.filter (fun x => decide (x.state = .held ∧ x.first ≤ b + s.eng.settings.lead))
      ∃ u : State, exec (.rollover .event) s = .next u ∧ u.eng = { s.eng with job := some (.rollover (.support a)) }
        ∧ u.cmt.queue = s.cmt.queue ∧ u.cmt.products = s.cmt.products
        ∧ u.cmt.records = s.cmt.records.filter (fun x => decide (x ∉ due))
        ∧ (∀ i, u.cmt.issue i = if ∃ x ∈ due, x.id = i then s.cmt.issue i + 1#8 else s.cmt.issue i)
        ∧ u.cgr = (due.foldl (fun t x => t.dropCommitment x) s).cgr
        ∧ ((∀ x ∈ due, ∀ y ∈ x.shares, y.group < 64) → ∀ g i, g < 64 → b ≤ i → i < b + 96 →
            u.cgr.entry g i = ⟨(s.cgr.entry g i).forecast,
              (due.filter (fun x => decide (x.first ≤ i ∧ i < x.first + x.count))).foldl
                (fun l x => l.sub (contribution (s.product x.product) (x.shareIn g))) (s.cgr.entry g i).load⟩)
        ∧ u.acu = s.acu ∧ u.dsp = s.dsp ∧ u.mtu = s.mtu
        ∧ u.count .market .holdExpired = counted due.length (s.count .market .holdExpired))

/-- Settlement figures (11.7): at the completion stage each completing record takes, from its quantity and snapshot and the
accounts read at the start of the boundary, the requested energy and the active ticks, wherever the record then goes. -/
def Obligations.SettlementFiguresAreWorkedAtCompletion : Prop :=
  (∀ (s : State) (a : Table Account) (b : Nat) (x : Commitment) (shot : Account), s.supply = .running → s.BookInv →
    s.eng.bookInterval = some b → s.eng.job = some (.rollover (.completion a)) → x ∈ s.cmt.records →
    x.state = .awarded → x.first + x.count - 1 = b → x.snapshot = some shot →
    let now := accountOf a x.product
    let delta := (now.fractionTicks.toNat + 2 ^ 48 - shot.fractionTicks.toNat) % 2 ^ 48
    let energy := min 65535 (x.quantity * delta / 36000000)
    let ticks := (now.activeTicks.toNat + 2 ^ 32 - shot.activeTicks.toNat) % 2 ^ 32
    ∃ u : State, exec (.rollover .event) s = .next u
      ∧ ((∃ q ∈ u.cmt.queue, q.id = x.id ∧ q.issue = x.issue ∧ q.energy = energy ∧ q.activeTicks.toNat = ticks)
        ∨ ∃ y ∈ u.cmt.records, y.id = x.id ∧ y.state = .settling
            ∧ ∃ f, y.figures = some f ∧ f.energy = energy ∧ f.activeTicks.toNat = ticks))
  ∧ (settlementFigures 1 ⟨0#48, 0#32⟩ ⟨36000000#48, 36000#32⟩).energy = 1
  ∧ (settlementFigures 65535 ⟨0#48, 0#32⟩ ⟨576000000#48, 576000#32⟩).energy = 65535

/-- ROLLOVER as one step (6.4, 7.5): whatever stage its job stands at, the whole row works every boundary up to c, so that
b is then c, the trigger is clear and the engine free. -/
def Obligations.RolloverReachesClockInterval : Prop :=
  ∀ (s : State) (st : RolloverStage), s.supply = .running → s.TimeInv → s.eng.job = some (.rollover st) →
    ∃ u : State, exec (.rollover .whole) s = .next u.choose ∧ u.eng.job = none
      ∧ u.eng.bookInterval = some s.mtu.clock ∧ u.eng.housekeeping.flag = false
      ∧ u.mtu = s.mtu ∧ u.frg = s.frg ∧ u.tiu = s.tiu ∧ u.dsp = s.dsp ∧ u.dvu = s.dvu
      ∧ u.acu.accounts = s.acu.accounts ∧ u.cmt.products = s.cmt.products ∧ u.eng.settings = s.eng.settings

/-- ROLLUP, stage by stage (4.4, 4.5, 11.4, 11.5): the snapshot, which is the job's first event (log 4),
the site figures and group sums of its snapshot, the stale report, the near-window rescan, the attribution of shortfalls, the
capture and the dispatch trigger. The whole row (95) works from any stage what the events work one by one, and ends the job:
the engine is free, the rollup result is that of the snapshot, and the registry, the activations, time and the dispatch state
stand. -/
def Obligations.RollupWorksItsStages : Prop :=
  ∀ s : State, s.supply = .running →
    let shot : RollupSnapshot := ⟨s.mtu.runSeconds, s.tiu.staleLimit, s.tiu.raw, s.frg,
      (s.tiu.sites.filter (fun x => x.2.fresh)).map (·.1)⟩
    let raises := (∃ e ∈ s.dsp.groups, e.2.published ≠ 0) ∨ ∃ e ∈ s.dsp.setpoints, e.2.value ≠ 0
    let figured (n : RollupSnapshot) (u : State) : Prop :=
      (∀ i, i < 4096 → u.tiu.site i =
          let reg := n.registry.site i
          match reg.group, Table.get none n.raw i with
          | none, _ => ⟨false, 0, 0, 0, 0, 0, none⟩
          | some g, none => ⟨false, 0, 0, 0, 0, 0, some g⟩
          | some g, some r =>
            let grp := n.registry.group g
            let derated (charge : Bool) := (n.registry.curve grp.curveClass charge).getD (r.soc / 64) 0
            if r.online = true ∧ (n.runSeconds.toNat + 2 ^ 32 - r.stamp.toNat) % 2 ^ 32 ≤ n.staleLimit then
              ⟨true, reg.discharge * derated false / 256, reg.charge * derated true / 256,
                (r.soc - reg.floor) * reg.energy / 1000, (grp.ceiling - r.soc) * reg.energy / 1000, r.measured, some g⟩
            else ⟨false, 0, 0, 0, 0, 0, some g⟩)
      ∧ (∀ g, g < 64 →
          let members := ((List.range 4096).map u.tiu.site).filter (fun x => decide (x.fresh = true ∧ x.member = some g))
          u.tiu.group g = {
            pUp := min 65535 (members.map (·.pUp)).sum
            pDn := min 65535 (members.map (·.pDn)).sum
            eUp := min 65535 (members.map (·.eUp)).sum
            eDn := min 65535 (members.map (·.eDn)).sum
            measured := (members.map (·.measured)).sum
            fresh := members.length })
    let at_ (st : RollupStage) := s.eng.job = some (.rollup st)
    let goes (u : State) (st : RollupStage) := exec (.rollup .event) s =
      .next { u with eng := { u.eng with job := some (.rollup st) } }
    (at_ .snapshot → goes s (.figures shot))
    ∧ (∀ n, at_ (.figures n) → ∃ u : State, goes u .rescan ∧ u.eng = s.eng ∧ u.cgr = s.cgr ∧ u.dsp = s.dsp
      ∧ u.cmt = s.cmt ∧ u.acu = s.acu ∧ u.mtu = s.mtu ∧ u.frg = s.frg ∧ u.dvu = s.dvu
      ∧ u.tiu = { s.tiu with sites := u.tiu.sites, groups := u.tiu.groups }
      ∧ figured n u
      ∧ u.count .fleet .staleSites = if ∃ i ∈ n.previousFresh, (u.tiu.site i).fresh = false then
          min 255 (s.count .fleet .staleSites + 1) else s.count .fleet .staleSites)
    ∧ (at_ .rescan → s.eng.bookInterval = none → goes s .verify)
    ∧ (∀ b, at_ .rescan → s.eng.bookInterval = some b → goes (s.rescan ((List.range' b (s.eng.settings.near + 1)).flatMap
        (fun i => (List.range 64).map (fun g => (i, g))))) .verify)
    ∧ (at_ .verify →
        let gained (x : Commitment) := s.shortGroups.countP (fun y => decide (x.hasShare y.group ∧ x.product ∈ y.mask))
        let delivering (x : Commitment) : Bool := match s.eng.bookInterval with
          | none => false
          | some b => decide (x.state = .awarded ∧ x.first ≤ b ∧ b ≤ x.last)
        let charged (x : Commitment) : Commitment :=
          if delivering x then { x with shortfalls := min 65535 (x.shortfalls + gained x) } else x
        goes { s with cmt := { s.cmt with records := s.cmt.records.map charged } } (.write s.shortGroups))
    ∧ (at_ (.write []) → goes s .trigger)
    ∧ (∀ x xs, at_ (.write (x :: xs)) → ∃ u : State, goes u .trigger ∧ u.eng = s.eng ∧ u.cmt = s.cmt
        ∧ u.cgr = s.cgr ∧ u.tiu = s.tiu ∧ u.acu = s.acu ∧ u.dsp = s.dsp ∧ u.mtu = s.mtu ∧ u.frg = s.frg
        ∧ (s.dvu.capture = none →
            u.dvu = ⟨some ⟨s.mtu.clock, s.mtu.second, s.mtu.phase, x⟩, min 65535 (s.dvu.further + xs.length)⟩)
        ∧ (∀ c, s.dvu.capture = some c → u.dvu = ⟨some c, min 65535 (s.dvu.further + (x :: xs).length)⟩)
        ∧ ∀ p, u.count p .shortfall = if p = .fleet then s.count p .shortfall else min 255 (s.count p .shortfall + 1))
    ∧ (at_ .trigger →
        (raises → exec (.rollup .event) s = .next s.raiseDispatch.endJob.choose)
        ∧ (¬raises → exec (.rollup .event) s = .next s.endJob.choose)
        ∧ exec (.rollup .whole) s = exec (.rollup .event) s)
    ∧ (∀ st t, at_ st → st ≠ .trigger → exec (.rollup .event) s = .next t →
        exec (.rollup .whole) s = exec (.rollup .whole) t)
    ∧ (∀ st, at_ st → ∃ u : State, exec (.rollup .whole) s = .next u.choose
        ∧ u.eng = { s.eng with
            job := none
            scratch := none
            dispatch := if raises then s.eng.dispatch.raised else s.eng.dispatch
            copy := u.eng.copy }
        ∧ u.tiu = { s.tiu with sites := u.tiu.sites, groups := u.tiu.groups }
        ∧ (st = .snapshot → figured shot u) ∧ (∀ n, st = .figures n → figured n u)
        ∧ (st ≠ .snapshot → (∀ n, st ≠ .figures n) → u.tiu = s.tiu)
        ∧ u.mtu = s.mtu ∧ u.frg = s.frg ∧ u.acu = s.acu ∧ u.dsp = s.dsp ∧ u.cgr.ring = s.cgr.ring
        ∧ u.cmt.products = s.cmt.products ∧ u.cmt.queue = s.cmt.queue ∧ u.cmt.issues = s.cmt.issues)

/-- The shortfall test (11.2, 11.3): a group is short when it is examined and its measured sum has not the sign of its
published target, or too small a magnitude under the smallest tolerance of its mask; the entry keeps the figures of the
test. Setpoints are not read. -/
def Obligations.ShortGroupsFailTheTest : Prop :=
  ∀ (s : State) (g : Nat), g < 64 →
    let d := s.dsp.group g
    let m := (s.tiu.group g).measured
    let examined := d.published ≠ 0 ∧ d.guard = false
      ∧ (∀ p ∈ d.mask, ∃ r, s.acu.record p = some r ∧ r.target ≠ 0 ∧ r.current = r.target)
      ∧ ∀ p ∈ d.mask, (s.product p).verifyDelay ≤ (s.dsp.tickCount.toNat + 2 ^ 32 - d.lastChange.toNat) % 2 ^ 32
    (∀ x ∈ s.shortGroups, x.group = g → examined ∧ x.published = d.published ∧ x.measured = m ∧ x.mask = d.mask)
    ∧ (examined → ∀ tol, (∃ p ∈ d.mask, (s.product p).tolerance = tol) → (∀ p ∈ d.mask, tol ≤ (s.product p).tolerance) →
      ((∃ x ∈ s.shortGroups, x.group = g) ↔
        (0 < d.published ∧ m ≤ 0) ∨ (d.published < 0 ∧ 0 ≤ m) ∨ m.natAbs * 1000 < d.published.natAbs * (1000 - tol))
      ∧ ∀ x ∈ s.shortGroups, x.group = g → x.tolerance = tol)
    ∧ ∀ table, State.shortGroups { s with dsp := { s.dsp with setpoints := table } } = s.shortGroups

/-- DISPATCH's commit (10.2 to 10.5): computed and published targets, the switching guard, the contributing products, the
short flag and the last-change tick of every group; the setpoints that differ, their sequence and the dirty set; and the
notices. -/
def Obligations.DispatchCommitPublishesAndSplits : Prop :=
  ∀ (s : State) (fractions : List (Nat × Int)) (guarded : List Nat), s.supply = .running → s.canonical = true →
    s.eng.job = some (.dispatch fractions guarded) →
    ∃ u : State, exec .dispatch s = .next u.endJob.choose ∧ u.eng = s.eng ∧ u.cmt = s.cmt ∧ u.cgr = s.cgr
      ∧ u.acu = s.acu ∧ u.tiu = s.tiu ∧ u.frg = s.frg ∧ u.mtu = s.mtu ∧ u.dvu = s.dvu
      ∧ u.dsp.tickCount = s.dsp.tickCount
      ∧ (∀ g, g < 64 →
          let d := s.dsp.group g
          let backing (p : Nat) : List Commitment := match s.eng.bookInterval with
            | none => []
            | some b => s.cmt.records.filter (fun x => decide (x.state = .awarded ∧ x.product = p
                ∧ x.first ≤ b ∧ b ≤ x.last))
          let total := (fractions.map (fun f => ((backing f.1).map (fun x => (x.shareIn g : Int) * f.2)).sum)).sum
          let rounded := Int.sign total * (((total.natAbs + 500) / 1000 : Nat) : Int)
          let computed := max (-32768) (min 32767 rounded)
          let starts := g ∉ guarded ∧ 0 < s.acu.guardTicks ∧ d.previous * computed < 0
          let published := if g ∈ guarded ∨ starts then 0 else computed
          let members := s.tiu.sites.filter (fun e => decide (e.2.fresh = true ∧ e.2.member = some g))
          let capTot := (members.map (fun e => if 0 < published then e.2.pUp else e.2.pDn)).sum
          u.dsp.group g = {
            computed := computed
            published := published
            previous := d.previous
            guard := if starts then true else d.guard
            remaining := if starts then s.acu.guardTicks else d.remaining
            lastChange := if published ≠ d.previous then s.dsp.tickCount else d.lastChange
            mask := (fractions.map (·.1)).filter (fun p => decide (∃ x ∈ backing p, x.hasShare g = true))
            short := decide (capTot < published.natAbs) })
      ∧ (let new (i : Nat) : Int :=
          if (s.tiu.site i).fresh then
            match (s.tiu.site i).member with
            | some g => if g < 64 then Table.get 0 (splitTarget (u.dsp.group g).published
                (s.tiu.capabilities g (u.dsp.group g).published)) i else 0
            | none => 0
          else 0
         let differs (i : Nat) : Prop := i < 4096 ∧ new i ≠ (s.dsp.setpoint i).value
         ((∃ i, differs i) → u.dsp.sequence = s.dsp.sequence + 1#16)
         ∧ ((∀ i, ¬differs i) → u.dsp.sequence = s.dsp.sequence)
         ∧ (∀ i, u.dsp.setpoint i = if differs i then ⟨new i, s.dsp.sequence + 1#16⟩ else s.dsp.setpoint i)
         ∧ (∀ i, i ∈ u.dsp.dirty ↔ i ∈ s.dsp.dirty ∨ differs i)
         ∧ (s.dsp.dirty = [] → (∃ i, differs i) →
             u.count .fleet .setpointsChanged = min 255 (s.count .fleet .setpointsChanged + 1))
         ∧ (s.dsp.dirty ≠ [] ∨ (∀ i, ¬differs i) →
             u.count .fleet .setpointsChanged = s.count .fleet .setpointsChanged))
      ∧ (let newly := ∃ g, g < 64 ∧ (u.dsp.group g).short = true ∧ (s.dsp.group g).short = false
         (newly → ∀ p, p ≠ .market → u.count p .dispatchShort = min 255 (s.count p .dispatchShort + 1))
         ∧ (¬newly → ∀ p, u.count p .dispatchShort = s.count p .dispatchShort)
         ∧ u.count .market .dispatchShort = s.count .market .dispatchShort)

/-- The site split (10.4, 8.3): members without duplicates take setpoints of the target's sign, none above its capability,
that sum to the lesser of the target and the capability; each is its floor share or one more, and the larger remainder,
then the lower number, is served first. -/
def Obligations.SplitSumsToTargetWithinCapability : Prop :=
  ∀ (target : Int) (caps : List (Nat × Nat)), target ≠ 0 → (caps.map (·.1)).Nodup →
    let total := (caps.map (·.2)).sum
    let p := target.natAbs
    let split := splitTarget target caps
    let share (c : Nat × Nat) := (Table.get 0 split c.1).natAbs
    let left (c : Nat × Nat) := p * c.2 % total
    (split.map (·.1)) = caps.map (·.1)
    ∧ (split.map (·.2)).sum = Int.sign target * ((min p total : Nat) : Int)
    ∧ (∀ c ∈ caps, Table.get 0 split c.1 = Int.sign target * ((share c : Nat) : Int) ∧ share c ≤ c.2)
    ∧ (total ≤ p → ∀ c ∈ caps, share c = c.2)
    ∧ (p < total → ∀ c ∈ caps, share c = p * c.2 / total ∨ (share c = p * c.2 / total + 1 ∧ 0 < left c))
    ∧ (p < total → ∀ c ∈ caps, ∀ d ∈ caps, share c = p * c.2 / total + 1 → share d = p * d.2 / total →
        left d < left c ∨ (left d = left c ∧ c.1 ≤ d.1))

/-! ### The engine -/

/-- An idle engine starts the job of the highest-ranked class that holds work (6.4): what each start takes from its class and
reads, and nothing where no class holds work. Three of these starts are the model's choice: a dispatch job's start copies published targets into previous published (log
13); a rollup job starts before its snapshot, and an ADMISSION job's start fills the whole scratch on the state at the
start (log 4). -/
def Obligations.EngineStartsHighestRankedWork : Prop :=
  ∀ s : State,
    let e := s.eng
    let with_ (x : Engine) : State := { s with eng := x }
    (e.job ≠ none → s.choose = s)
    ∧ (e.job = none →
      (∀ a t, e.activation = a :: t → s.choose = with_ { e with
          activation := t
          job := some (match a with
            | .order x => .order ⟨x, false⟩
            | .trip v => .trip v) })
      ∧ (e.activation = [] → e.dispatch.flag = true →
          s.choose.eng = { e with
            dispatch := ⟨false, e.dispatch.merges⟩
            job := some (.dispatch
              ((s.acu.records.filter (fun r => decide (r.current ≠ 0))).map (fun r => (r.product, r.current)))
              ((List.range 64).filter (fun g => (s.dsp.group g).guard))) }
          ∧ (∀ g, g < 64 → s.choose.dsp.group g = { s.dsp.group g with previous := (s.dsp.group g).published })
          ∧ s.choose = { s with eng := s.choose.eng, dsp := { s.dsp with groups := s.choose.dsp.groups } })
      ∧ (e.activation = [] → e.dispatch.flag = false →
        (e.housekeeping.flag = true → s.choose = with_ { e with
            housekeeping := ⟨false, e.housekeeping.merges⟩, job := some (.rollover .between) })
        ∧ (e.housekeeping.flag = false →
          (e.rollup.flag = true → s.choose = with_ { e with
              rollup := ⟨false, e.rollup.merges⟩
              job := some (.rollup .snapshot) })
          ∧ (e.rollup.flag = false →
            (∀ x t, e.fleet = x :: t → s.choose = with_ { e with fleet := t, job := some (.fleet ⟨x, false⟩) })
            ∧ (∀ x t, e.fleet = [] → e.book = x :: t →
                s.choose = with_ { e with book := t, job := some (.book ⟨x, false⟩) })
            ∧ (∀ x t, e.fleet = [] → e.book = [] → e.admission = x :: t →
                s.choose = with_ { e with
                  admission := t
                  job := some (.admission ⟨x, false⟩)
                  scratch := some (admissionScratch x.request (with_ { e with admission := t })) })
            ∧ (e.fleet = [] → e.book = [] → e.admission = [] → s.choose = s)))))

/-- Triggers and abandonment (6.3, 6.6): a raise sets a clear flag and merges into a set one; an arrival in ACTIVATION or a
raise of DISPATCH abandons an ADMISSION job whose count is below 3, which goes back to the head of its class unless it is an
orphan (6.7), and leaves an immune one and every other job as they are. A job that its computing phase has already refused
is abandoned like any other while it is in progress: that is the model's reading (log 23, DEDUCED). -/
def Obligations.ArrivalsMergeAndAbandon : Prop :=
  (∀ t : Trigger, (t.flag = false → t.raised = ⟨true, t.merges⟩)
    ∧ (t.flag = true → t.raised = ⟨true, min 255 (t.merges + 1)⟩))
  ∧ (∀ s : State, s.raiseHousekeeping = { s with eng := { s.eng with housekeeping := s.eng.housekeeping.raised } }
      ∧ s.raiseRollup = { s with eng := { s.eng with rollup := s.eng.rollup.raised } })
  ∧ (∀ (s : State) (a : ActEntry),
      let joined : Engine := { s.eng with activation := s.eng.activation ++ [a] }
      let raised : Engine := { s.eng with dispatch := s.eng.dispatch.raised }
      (∀ r, s.eng.job = some (.admission r) → r.entry.abandons < 3 →
        let gone (e : Engine) : State := { s with eng := { e with
          job := none
          scratch := none
          admission := if r.orphan then s.eng.admission
            else { r.entry with abandons := r.entry.abandons + 1 } :: s.eng.admission
          abandonTotal := min 65535 (s.eng.abandonTotal + 1) } }
        s.joinActivation a = gone joined ∧ s.raiseDispatch = gone raised)
      ∧ ((∀ r, s.eng.job = some (.admission r) → 3 ≤ r.entry.abandons) →
        s.joinActivation a = { s with eng := joined } ∧ s.raiseDispatch = { s with eng := raised }))
  ∧ ∀ (s : State) (r : Running) (k : Nat) (tag : Byte) (a : ActivateArgs), s.supply = .running →
      s.eng.job = some (.admission r) → r.entry.abandons < 3 → r.orphan = false → s.eng.activation = [] →
      s.freeSlot .grid = some k →
      ∃ t : State, exec (.activate (.request .grid tag a)) s = .next t
        ∧ t.eng.job = some (.order ⟨⟨.grid, k, tag, .activate a, 0⟩, false⟩) ∧ t.eng.scratch = none
        ∧ t.eng.admission = { r.entry with abandons := r.entry.abandons + 1 } :: s.eng.admission
        ∧ t.cmt = s.cmt ∧ t.cgr = s.cgr ∧ t.acu = s.acu

/-- Only the engine's jobs write the Book, the registry, the last rollup's result and the setpoints (6.1): every event of time,
pins, transfers and requests worked on acceptance leaves them as they are. That a power failure leaves them too, unseen until
the next release, is the model's choice (log 14). -/
def Obligations.OnlyJobsWriteTheBook : Prop :=
  ∀ (i : Instr) (s t : State), Instr.outsideEngine i = true → exec i s = .next t →
    t.cmt = s.cmt ∧ t.cgr = s.cgr ∧ t.frg = s.frg ∧ t.tiu.sites = s.tiu.sites ∧ t.tiu.groups = s.tiu.groups
    ∧ t.dsp.setpoints = s.dsp.setpoints ∧ t.dsp.sequence = s.dsp.sequence
    ∧ t.eng.bookInterval = s.eng.bookInterval ∧ t.eng.settings = s.eng.settings
    ∧ ∀ g, g < 64 → (t.dsp.group g).published = (s.dsp.group g).published
        ∧ (t.dsp.group g).computed = (s.dsp.group g).computed ∧ (t.dsp.group g).mask = (s.dsp.group g).mask
        ∧ (t.dsp.group g).short = (s.dsp.group g).short

/-! ### Invariants -/

/-- The invariants hold right after reset, and the engine is then free. -/
def Obligations.InvariantsHoldAtReset : Prop :=
  State.reset.TimeInv ∧ State.reset.ActivationInv ∧ State.reset.BookInv ∧ State.reset.RecordInv ∧ State.reset.LoadInv
    ∧ State.reset.eng.oneTripEach ∧ State.reset.dsp.dirtyOrdered ∧ State.reset.canonical = true
    ∧ State.reset.settled = true ∧ State.reset.ready = true

/-- Every step keeps the order of time and the Book (1.4, 7.5): b never passes c, and neither ever goes back but by a device
reset. -/
def Obligations.StepKeepsTimeInvariant : Prop :=
  ∀ s t : State, s.TimeInv → step s = .next t → t.TimeInv
    ∧ (s.pending.head? ≠ some .resetRelease → s.mtu.clock ≤ t.mtu.clock
        ∧ ∀ b, s.eng.bookInterval = some b → ∃ b', t.eng.bookInterval = some b' ∧ b ≤ b')

/-- Every step keeps the activation list (9.1): its order, the ranges of its fractions, and an end cause exactly while a
record is ENDING. And it keeps at most one queued trip event for each line (6.3). -/
def Obligations.StepKeepsActivationInvariant : Prop :=
  (∀ s t : State, s.ActivationInv → step s = .next t → t.ActivationInv)
  ∧ ∀ s t : State, s.eng.oneTripEach → step s = .next t → t.eng.oneTripEach

/-- Every step keeps the Book's collections (5.4, 7.1): the deficit list, the commitment records and their shares, and the
settlement queue, full while any commitment is SETTLING. And it keeps what the records say (7.1, 7.2, 8.6): shares of 1 PU or
more that sum to the quantity, delivery snapshots from the first interval on, figures exactly while SETTLING, and no pair of
id and issue in the table and the queue at once. -/
def Obligations.StepKeepsBookInvariant : Prop :=
  (∀ s t : State, s.BookInv → step s = .next t → t.BookInv)
  ∧ ∀ s t : State, s.TimeInv → s.BookInv → s.RecordInv → step s = .next t → t.RecordInv

/-- Every step keeps the tables in canonical form (log 18), leaves no running part with an idle engine that has work (6.4),
and keeps the dirty set in ascending site number without duplicates (10.5), on which the collection of its lowest 32
rests. -/
def Obligations.StepKeepsCanonicalAndSettled : Prop :=
  ∀ s t : State, step s = .next t → (s.canonical = true → t.canonical = true) ∧ (s.settled = true → t.settled = true)
    ∧ (s.dsp.dirtyOrdered → t.dsp.dirtyOrdered)

/-! ### The Book's arithmetic -/

/-- Effective capability (5.3): within the near window b..b+n each figure is the lesser of the forecast and the group's live
sum, and beyond it the forecast. A limit is effective capability under the margin. A pair is in deficit in the kinds whose
load is above its limit (5.4): a load equal to its limit, or of 0, is in none. Limits with loads are all that the deficit test
and the headroom read of capability. -/
def Obligations.LimitsAreEffectiveCapabilityUnderMargin : Prop :=
  (∀ (s : State) (b g i : Nat), s.eng.bookInterval = some b →
    let f := (s.cgr.entry g i).forecast
    let l := s.tiu.group g
    (b ≤ i → i ≤ b + s.eng.settings.near →
      s.effective g i = ⟨min f.pUp l.pUp, min f.pDn l.pDn, min f.eUp l.eUp, min f.eDn l.eDn⟩)
    ∧ (b + s.eng.settings.near < i → s.effective g i = f))
  ∧ (∀ (s : State) (g i : Nat),
    let d := (s.cgr.entry g i).load
    let l := s.limits g i
    s.kinds g i = ⟨decide (l.pUp < d.pUp), decide (l.pDn < d.pDn), decide (l.eUp < d.eUp), decide (l.eDn < d.eDn)⟩
    ∧ ((s.kinds g i).any = true ↔ l.pUp < d.pUp ∨ l.pDn < d.pDn ∨ l.eUp < d.eUp ∨ l.eDn < d.eDn)
    ∧ (d = l ∨ d = ⟨0, 0, 0, 0⟩ → s.kinds g i = ⟨false, false, false, false⟩))
  ∧ (∀ (s : State) (g i : Nat),
    let e := s.effective g i
    let m := s.eng.settings.margin
    s.limits g i = ⟨e.pUp * (256 - m) / 256, e.pDn * (256 - m) / 256, e.eUp * (256 - m) / 256, e.eDn * (256 - m) / 256⟩
    ∧ (m = 0 → s.limits g i = e)
    ∧ (m = 64 → s.limits g i = ⟨e.pUp * 192 / 256, e.pDn * 192 / 256, e.eUp * 192 / 256, e.eDn * 192 / 256⟩)
    ∧ (e.pUp ≤ 65535 → e.pUp * (256 - m) ≤ 65535 * 256) ∧ (e.pDn ≤ 65535 → e.pDn * (256 - m) ≤ 65535 * 256)
    ∧ (e.eUp ≤ 65535 → e.eUp * (256 - m) ≤ 65535 * 256) ∧ (e.eDn ≤ 65535 → e.eDn * (256 - m) ≤ 65535 * 256))
  ∧ ∀ (s t : State) (g i : Nat), s.limits g i = t.limits g i → (s.cgr.entry g i).load = (t.cgr.entry g i).load →
      s.kinds g i = t.kinds g i ∧ ∀ p, s.directionHeadroom p g i = t.directionHeadroom p g i

/-- The conversion of an energy spare into power and the direction headroom (8.2): a share's energy load fits the spare exactly
when its power is at most the converted value. The groups considered are those of the zone, a pair's spares are its limits
less its loads, what a share adds to the four loads is that of its product's direction (5.2), and a group's headroom over a range is the least direction headroom of its intervals, held at 65535, with the
earliest interval at which it is least. -/
def Obligations.EnergySpareConvertsExactly : Prop :=
  (∀ power t spare : Nat, 1 ≤ t →
    ((power * t + 59) / 60 ≤ spare ↔ power ≤ 60 * spare / t) ∧ (spare ≤ 65535 → 60 * spare ≤ 3932100))
  ∧ (∀ (p : Product) (share : Nat), p.direction ≠ .none →
      (p.direction ≠ .down → (contribution p share).eUp = (share * p.sustain + 59) / 60)
      ∧ (p.direction ≠ .up → (contribution p share).eDn = (share * p.sustain + 59) / 60)
      ∧ (p.direction = .up → contribution p share = ⟨share, 0, (share * p.sustain + 59) / 60, 0⟩)
      ∧ (p.direction = .down → contribution p share = ⟨0, share, 0, (share * p.sustain + 59) / 60⟩)
      ∧ (p.direction = .sym → contribution p share =
          ⟨share, share, (share * p.sustain + 59) / 60, (share * p.sustain + 59) / 60⟩))
  ∧ ∀ (s : State) (p : Product) (g i : Nat),
      let d := (s.cgr.entry g i).load
      let l := s.limits g i
      let up := min (l.pUp - d.pUp) (60 * (l.eUp - d.eUp) / p.sustain)
      let down := min (l.pDn - d.pDn) (60 * (l.eDn - d.eDn) / p.sustain)
      (p.direction = .up → s.directionHeadroom p g i = up)
      ∧ (p.direction = .down → s.directionHeadroom p g i = down)
      ∧ (p.direction = .sym → s.directionHeadroom p g i = min up down)
      ∧ s.spares g i = ⟨l.pUp - d.pUp, l.pDn - d.pDn, l.eUp - d.eUp, l.eDn - d.eDn⟩
      ∧ (∀ z, (g ∈ s.zoneGroups z ↔ g < 64 ∧ (s.frg.group g).zone = z) ∧ (s.zoneGroups z).Pairwise (fun x y => x < y))
      ∧ ∀ first count, 1 ≤ count →
          let h := s.groupHeadroom p first count g
          h.group = g ∧ first ≤ h.binding ∧ h.binding < first + count
          ∧ h.power = min 65535 (s.directionHeadroom p g h.binding)
          ∧ ∀ j, first ≤ j → j < first + count →
              s.directionHeadroom p g h.binding ≤ s.directionHeadroom p g j
              ∧ (j < h.binding → s.directionHeadroom p g h.binding < s.directionHeadroom p g j)

/-- The selection (8.3): up to 16 groups of headroom at least 1, all of them if there are no more, the larger headroom first
and the lower group between equals, none passed over for a later one. The allocation of a quantity (8.3, 8.6) among distinct
groups with headroom: at least one share, each at least 1 PU and at most its group's headroom, in ascending group order,
summing to the quantity; each is its floor share or one more, and the larger remainder, then the lower group, is served
first. -/
def Obligations.AllocationIsByLargestRemainder : Prop :=
  (∀ l : List Headroom, (l.map (·.group)).Nodup →
    let chosen := selectGroups l
    let first (x y : Headroom) : Prop := y.power < x.power ∨ (x.power = y.power ∧ x.group < y.group)
    chosen.length = min 16 (l.filter (fun x => decide (1 ≤ x.power))).length
    ∧ (∀ x ∈ chosen, x ∈ l ∧ 1 ≤ x.power) ∧ chosen.Pairwise first
    ∧ (∀ x ∈ l, 1 ≤ x.power → x ∉ chosen → ∀ y ∈ chosen, first y x)
    ∧ totalHeadroom chosen = (chosen.map (·.power)).sum)
  ∧ ∀ (q : Nat) (weights : List (Nat × Nat)), 1 ≤ q → (weights.map (·.1)).Nodup → (∀ w ∈ weights, 1 ≤ w.2) →
    let total := (weights.map (·.2)).sum
    let shares := allocate q total weights
    let shareOf (g : Nat) := ((shares.filter (fun x => decide (x.group = g))).map (·.power)).sum
    let left (w : Nat × Nat) := q * w.2 % total
    q ≤ total →
    shares ≠ [] ∧ (shares.map (·.power)).sum = q ∧ shares.Pairwise (fun x y => x.group < y.group)
    ∧ (∀ x ∈ shares, 1 ≤ x.power ∧ ∃ w ∈ weights, w.1 = x.group ∧ x.power ≤ w.2)
    ∧ (∀ w ∈ weights, shareOf w.1 = q * w.2 / total ∨ (shareOf w.1 = q * w.2 / total + 1 ∧ 0 < left w))
    ∧ (∀ w ∈ weights, ∀ v ∈ weights, shareOf w.1 = q * w.2 / total + 1 → shareOf v.1 = q * v.2 / total →
        left v < left w ∨ (left v = left w ∧ w.1 ≤ v.1))
    ∧ (q = total → ∀ w ∈ weights, shareOf w.1 = w.2)

/-- Every step keeps each load of the horizon equal to the sum of the contributions of the HELD and AWARDED records that cover
it (5.2, `State.LoadInv`). Admission never makes a load pass its limit (5.2): after a HOLD, whatever its outcome, each load of every pair of the
horizon is as it was or stays within its limit, every limit, kinds mask and deficit entry stands, and a record created has
added its contribution to every interval of its range in every group of its shares. -/
def Obligations.HoldKeepsLoadsWithinLimits : Prop :=
  (∀ s t : State, s.TimeInv → s.BookInv → s.RecordInv → s.LoadInv → step s = .next t → t.LoadInv)
  ∧ ∀ (s t : State) (tag : Byte) (a : HoldArgs), s.ready = true →
    exec (.hold (.request .market tag a)) s = .next t →
    t.cgr.deficits = s.cgr.deficits ∧ t.cgr.overflow = s.cgr.overflow
    ∧ ∀ g i, g < 64 → s.eng.inHorizon i = true →
      let old := (s.cgr.entry g i).load
      let new := (t.cgr.entry g i).load
      let l := s.limits g i
      let pr := s.product a.product.toNat
      t.limits g i = l ∧ t.kinds g i = s.kinds g i ∧ (t.cgr.entry g i).forecast = (s.cgr.entry g i).forecast
      ∧ (new.pUp = old.pUp ∨ new.pUp ≤ l.pUp) ∧ (new.pDn = old.pDn ∨ new.pDn ≤ l.pDn)
      ∧ (new.eUp = old.eUp ∨ new.eUp ≤ l.eUp) ∧ (new.eDn = old.eDn ∨ new.eDn ≤ l.eDn)
      ∧ (t.cmt.records = s.cmt.records → new = old)
      ∧ ∀ r ∈ t.cmt.records, r ∉ s.cmt.records →
          new = if r.first ≤ i ∧ i < r.first + r.count then old.add (contribution pr (r.shareIn g)) else old

/-- A rescan (5.5): with the overflow flag clear, and unless it sets it, the pairs of its scope in the horizon are listed
exactly while in deficit, with the kinds found, and other entries stand; a rescan that sets the flag leaves the first 64 of
those entries in list order, and others are not listed; while the flag is set the list is rebuilt from the
whole horizon. DEFICIT is raised once at the market and grid ports if an entry was added, a kind gained or the flag set. -/
def Obligations.RescanListsPairsInDeficit : Prop :=
  ∀ (s : State) (scope : List (Nat × Nat)) (b : Nat), s.BookInv → s.eng.bookInterval = some b →
    scope.Pairwise (fun x y => x.1 < y.1 ∨ (x.1 = y.1 ∧ x.2 < y.2)) →
    let u := s.rescan scope
    let found := ((List.range' b 96).flatMap (fun i => (List.range 64).map (fun g => (⟨g, i, s.kinds g i⟩ : Deficit)))).filter
      (fun d => d.kinds.any)
    let held (d : Deficit) := (d.interval, d.group) ∈ scope ∧ b ≤ d.interval ∧ d.interval < b + 96
    let added := ∃ d ∈ u.cgr.deficits, ∀ o ∈ s.cgr.deficits, o.interval = d.interval → o.group = d.group →
      (d.kinds.pUp = true ∧ o.kinds.pUp = false) ∨ (d.kinds.pDn = true ∧ o.kinds.pDn = false)
        ∨ (d.kinds.eUp = true ∧ o.kinds.eUp = false) ∨ (d.kinds.eDn = true ∧ o.kinds.eDn = false)
    let due (d : Deficit) := (d ∈ s.cgr.deficits ∧ ¬held d)
      ∨ (held d ∧ d.kinds = s.kinds d.group d.interval ∧ d.kinds.any = true)
    u.eng = s.eng ∧ u.cmt = s.cmt ∧ u.cgr.ring = s.cgr.ring ∧ u.tiu = s.tiu
    ∧ (s.cgr.overflow = false → u.cgr.overflow = false → ∀ d, d ∈ u.cgr.deficits ↔ due d)
    ∧ (s.cgr.overflow = false → u.cgr.overflow = true → u.cgr.deficits.length = 64
        ∧ u.cgr.deficits.Pairwise (fun x y => x.before y = true) ∧ (∀ d ∈ u.cgr.deficits, due d)
        ∧ (∃ d, due d ∧ d ∉ u.cgr.deficits)
        ∧ ∀ d, due d → d ∉ u.cgr.deficits → ∀ x ∈ u.cgr.deficits, x.before d = true)
    ∧ (s.cgr.overflow = true → u.cgr.deficits = found.take 64 ∧ u.cgr.overflow = decide (64 < found.length))
    ∧ (added ∨ (u.cgr.overflow = true ∧ s.cgr.overflow = false) →
        ∀ p, p ≠ .fleet → u.count p .deficit = min 255 (s.count p .deficit + 1))
    ∧ (¬added → u.cgr.overflow = s.cgr.overflow ∨ u.cgr.overflow = false →
        ∀ p, u.count p .deficit = s.count p .deficit)
end

