-- ==== Sys2Proof/Laws/Tables.lean ====
section
/-! SUPPORT. Laws of the tables by number: what a read gives after each operation, and that every operation keeps
the canonical form (log 18). -/

namespace Sys2Proof.Machine

variable {α : Type} {d v : α} {t : Table α} {i j n : Nat} {f : Nat → α}

/-! ### Reads after writes -/

theorem Table.get_of_not_key (h : ∀ e ∈ t, e.1 ≠ i) : Table.get d t i = d := by
  induction t with
  | nil => rfl
  | cons e t ih =>
    obtain ⟨k, w⟩ := e
    have hk : k ≠ i := h (k, w) (by simp)
    simp only [Table.get, if_neg hk]
    exact ih (fun x hx => h x (by simp [hx]))

theorem Table.get_filter (p : Nat × α → Bool) (h : ∀ w, p (i, w) = true) :
    Table.get d (t.filter p) i = Table.get d t i := by
  induction t with
  | nil => rfl
  | cons e t ih =>
    obtain ⟨k, w⟩ := e
    by_cases hk : k = i
    · subst hk
      simp [List.filter, h w, Table.get]
    · cases hp : p (k, w) <;> simp [List.filter, hp, Table.get, hk, ih]

theorem Table.get_insert_ne (h : j ≠ i) : Table.get d (Table.insert i v t) j = Table.get d t j := by
  induction t with
  | nil => simp [Table.insert, Table.get, Ne.symm h]
  | cons e t ih =>
    obtain ⟨k, w⟩ := e
    simp only [Table.insert]
    split
    · simp [Table.get, Ne.symm h]
    · simp [Table.get, ih]

theorem Table.get_insert_eq (h : ∀ e ∈ t, e.1 ≠ i) : Table.get d (Table.insert i v t) i = v := by
  induction t with
  | nil => simp [Table.insert, Table.get]
  | cons e t ih =>
    obtain ⟨k, w⟩ := e
    simp only [Table.insert]
    split
    · simp [Table.get]
    · have hk : k ≠ i := h (k, w) (by simp)
      simp only [Table.get, if_neg hk]
      exact ih (fun x hx => h x (by simp [hx]))

variable [DecidableEq α]

/-- A read after a write: the value written at its key, and every other key as before. -/
theorem Table.get_set : Table.get d (Table.set d t i v) j = if j = i then v else Table.get d t j := by
  have hno : ∀ e ∈ t.filter (fun e => decide (e.1 ≠ i)), e.1 ≠ i := by
    intro e he
    simpa using (List.mem_filter.mp he).2
  by_cases hj : j = i
  · subst hj
    simp only [Table.set, if_true]
    split
    · rename_i hv
      rw [Table.get_of_not_key hno, hv]
    · exact Table.get_insert_eq hno
  · have hf : Table.get d (t.filter (fun e => decide (e.1 ≠ i))) j = Table.get d t j :=
      Table.get_filter _ (fun _ => by simpa using hj)
    simp only [Table.set, if_neg hj]
    split
    · exact hf
    · rw [Table.get_insert_ne hj, hf]

@[simp] theorem Table.get_set_self : Table.get d (Table.set d t i v) i = v := by simp [Table.get_set]

theorem Table.get_set_ne (h : j ≠ i) : Table.get d (Table.set d t i v) j = Table.get d t j := by
  simp [Table.get_set, h]

theorem Table.get_modify (g : α → α) :
    Table.get d (Table.modify d t i g) j = if j = i then g (Table.get d t i) else Table.get d t j :=
  Table.get_set

/-- A tabulated table reads as its function below `n`, and as the unlisted value from there on. -/
theorem Table.get_tabulate : Table.get d (Table.tabulate d n f) i = if i < n then f i else d := by
  have key : ∀ l : List Nat, l.Nodup →
      Table.get d (l.filterMap (fun i => if f i = d then none else some (i, f i))) i
        = if i ∈ l then f i else d := by
    intro l
    induction l with
    | nil => intro _; rfl
    | cons a l ih =>
      intro hn
      have hl := ih (List.nodup_cons.mp hn).2
      have ha := (List.nodup_cons.mp hn).1
      by_cases hfa : f a = d
      · rw [List.filterMap_cons]
        simp only [hfa, if_true, hl, List.mem_cons]
        by_cases hia : i = a
        · subst hia; simp [ha, hfa]
        · simp [hia]
      · rw [List.filterMap_cons]
        simp only [hfa, if_false, Table.get, hl, List.mem_cons]
        by_cases hia : a = i
        · subst hia; simp
        · simp [hia, Ne.symm hia]
  have h := key (List.range n) List.nodup_range
  simpa [Table.tabulate] using h

/-! ### The canonical form -/

theorem Table.wf_nil : Table.wf d ([] : Table α) = true := by simp [Table.wf]

theorem Table.wf_iff : Table.wf d t = true ↔ (t.map (·.1)).Pairwise (· < ·) ∧ ∀ e ∈ t, e.2 ≠ d := by
  simp [Table.wf]

theorem Table.wf_filter (p : Nat × α → Bool) (h : Table.wf d t = true) : Table.wf d (t.filter p) = true := by
  rw [Table.wf_iff] at h ⊢
  refine ⟨?_, fun e he => h.2 e (List.mem_of_mem_filter he)⟩
  exact h.1.sublist (List.filter_sublist.map _)

omit [DecidableEq α] in
theorem Table.mem_insert_key (e : Nat × α) (h : e ∈ Table.insert i v t) : e = (i, v) ∨ e ∈ t := by
  induction t with
  | nil => simpa [Table.insert] using h
  | cons x t ih =>
    obtain ⟨k, w⟩ := x
    simp only [Table.insert] at h
    split at h
    · simpa using h
    · rcases List.mem_cons.mp h with h | h
      · exact .inr (by simp [h])
      · rcases ih h with h | h
        · exact .inl h
        · exact .inr (by simp [h])

theorem Table.wf_insert (hv : v ≠ d) (h : Table.wf d t = true) (hno : ∀ e ∈ t, e.1 ≠ i) :
    Table.wf d (Table.insert i v t) = true := by
  induction t with
  | nil => simp [Table.insert, Table.wf, hv]
  | cons x t ih =>
    obtain ⟨k, w⟩ := x
    have hki : k ≠ i := hno (k, w) (by simp)
    rw [Table.wf_iff] at h
    have hp := List.pairwise_cons.mp h.1
    simp only [Table.insert]
    split
    · rename_i hlt
      rw [Table.wf_iff]
      refine ⟨?_, ?_⟩
      · rw [List.map_cons, List.pairwise_cons]
        refine ⟨?_, h.1⟩
        intro b hb
        rcases List.mem_cons.mp hb with hb | hb
        · simpa [hb] using hlt
        · exact lt_trans hlt (hp.1 b hb)
      · intro e he
        rcases List.mem_cons.mp he with he | he
        · simpa [he] using hv
        · exact h.2 e he
    · rename_i hge
      have ht : Table.wf d t = true :=
        Table.wf_iff.mpr ⟨hp.2, fun e he => h.2 e (by simp [he])⟩
      have ih' := Table.wf_iff.mp (ih ht (fun e he => hno e (by simp [he])))
      rw [Table.wf_iff]
      refine ⟨?_, ?_⟩
      · rw [List.map_cons, List.pairwise_cons]
        refine ⟨?_, ih'.1⟩
        intro b hb
        obtain ⟨e, he, rfl⟩ := List.mem_map.mp hb
        rcases Table.mem_insert_key e he with he | he
        · subst he; simpa using lt_of_le_of_ne (not_lt.mp hge) hki
        · exact hp.1 e.1 (List.mem_map.mpr ⟨e, he, rfl⟩)
      · intro e he
        rcases List.mem_cons.mp he with he | he
        · exact h.2 e (by simp [he])
        · exact ih'.2 e he

/-- A write keeps the canonical form. -/
theorem Table.wf_set (h : Table.wf d t = true) : Table.wf d (Table.set d t i v) = true := by
  have hf := Table.wf_filter (fun e => decide (e.1 ≠ i)) h
  simp only [Table.set]
  split
  · exact hf
  · rename_i hv
    refine Table.wf_insert hv hf ?_
    intro e he
    simpa using (List.mem_filter.mp he).2

theorem Table.wf_modify (g : α → α) (h : Table.wf d t = true) : Table.wf d (Table.modify d t i g) = true :=
  Table.wf_set h

/-- A tabulated table is in canonical form. -/
theorem Table.wf_tabulate : Table.wf d (Table.tabulate d n f) = true := by
  have key : ∀ l : List Nat, l.Pairwise (· < ·) →
      Table.wf d (l.filterMap (fun i => if f i = d then none else some (i, f i))) = true := by
    intro l hl
    rw [Table.wf_iff]
    refine ⟨?_, ?_⟩
    · induction l with
      | nil => simp
      | cons a l ih =>
        rw [List.filterMap_cons]
        have hc := List.pairwise_cons.mp hl
        split
        · exact ih hc.2
        · rename_i b hb
          rw [List.map_cons, List.pairwise_cons]
          refine ⟨?_, ih hc.2⟩
          intro k hk
          obtain ⟨e, he, rfl⟩ := List.mem_map.mp hk
          obtain ⟨j, hj, hje⟩ := List.mem_filterMap.mp he
          split at hb
          · cases hb
          · cases hb
            split at hje
            · cases hje
            · cases hje
              exact hc.1 j hj
    · intro e he
      obtain ⟨j, _, hje⟩ := List.mem_filterMap.mp he
      split at hje
      · cases hje
      · rename_i hne
        cases hje
        exact hne
  exact key _ List.pairwise_lt_range

end Sys2Proof.Machine
end

