-- ==== Sys2Proof/Laws/State.lean ====
section
/-! SUPPORT. For each operation that updates the state, one lemma for each field it leaves as it is, and what it does to
a port; so that no later proof unfolds a record update. -/

namespace Sys2Proof.Machine

/-! ### A port written -/

@[simp] theorem State.withPort_supply (s : State) (p : Port) (x : PortState) : (s.withPort p x).supply = s.supply := by cases p <;> rfl
@[simp] theorem State.withPort_cause (s : State) (p : Port) (x : PortState) : (s.withPort p x).cause = s.cause := by cases p <;> rfl
@[simp] theorem State.withPort_mtu (s : State) (p : Port) (x : PortState) : (s.withPort p x).mtu = s.mtu := by cases p <;> rfl
@[simp] theorem State.withPort_frg (s : State) (p : Port) (x : PortState) : (s.withPort p x).frg = s.frg := by cases p <;> rfl
@[simp] theorem State.withPort_tiu (s : State) (p : Port) (x : PortState) : (s.withPort p x).tiu = s.tiu := by cases p <;> rfl
@[simp] theorem State.withPort_cgr (s : State) (p : Port) (x : PortState) : (s.withPort p x).cgr = s.cgr := by cases p <;> rfl
@[simp] theorem State.withPort_eng (s : State) (p : Port) (x : PortState) : (s.withPort p x).eng = s.eng := by cases p <;> rfl
@[simp] theorem State.withPort_cmt (s : State) (p : Port) (x : PortState) : (s.withPort p x).cmt = s.cmt := by cases p <;> rfl
@[simp] theorem State.withPort_acu (s : State) (p : Port) (x : PortState) : (s.withPort p x).acu = s.acu := by cases p <;> rfl
@[simp] theorem State.withPort_dsp (s : State) (p : Port) (x : PortState) : (s.withPort p x).dsp = s.dsp := by cases p <;> rfl
@[simp] theorem State.withPort_dvu (s : State) (p : Port) (x : PortState) : (s.withPort p x).dvu = s.dvu := by cases p <;> rfl
@[simp] theorem State.withPort_pending (s : State) (p : Port) (x : PortState) : (s.withPort p x).pending = s.pending := by cases p <;> rfl

@[simp] theorem State.port_withPort_self (s : State) (p : Port) (x : PortState) : (s.withPort p x).port p = x := by
  cases p <;> rfl

theorem State.port_withPort (s : State) (p q : Port) (x : PortState) :
    (s.withPort p x).port q = if q = p then x else s.port q := by
  cases p <;> cases q <;> rfl

@[simp] theorem State.withPort_withPort (s : State) (p : Port) (x y : PortState) :
    (s.withPort p x).withPort p y = s.withPort p y := by
  cases p <;> rfl

@[simp] theorem State.withPort_port (s : State) (p : Port) : s.withPort p (s.port p) = s := by
  cases p <;> rfl

/-! ### A notice raised, a reply completed -/

@[simp] theorem State.raise_supply (s : State) (k : Notice) : (s.raise k).supply = s.supply := rfl
@[simp] theorem State.raise_cause (s : State) (k : Notice) : (s.raise k).cause = s.cause := rfl
@[simp] theorem State.raise_mtu (s : State) (k : Notice) : (s.raise k).mtu = s.mtu := rfl
@[simp] theorem State.raise_frg (s : State) (k : Notice) : (s.raise k).frg = s.frg := rfl
@[simp] theorem State.raise_tiu (s : State) (k : Notice) : (s.raise k).tiu = s.tiu := rfl
@[simp] theorem State.raise_cgr (s : State) (k : Notice) : (s.raise k).cgr = s.cgr := rfl
@[simp] theorem State.raise_eng (s : State) (k : Notice) : (s.raise k).eng = s.eng := rfl
@[simp] theorem State.raise_cmt (s : State) (k : Notice) : (s.raise k).cmt = s.cmt := rfl
@[simp] theorem State.raise_acu (s : State) (k : Notice) : (s.raise k).acu = s.acu := rfl
@[simp] theorem State.raise_dsp (s : State) (k : Notice) : (s.raise k).dsp = s.dsp := rfl
@[simp] theorem State.raise_dvu (s : State) (k : Notice) : (s.raise k).dvu = s.dvu := rfl
@[simp] theorem State.raise_pending (s : State) (k : Notice) : (s.raise k).pending = s.pending := rfl

theorem State.port_raise (s : State) (k : Notice) (p : Port) :
    (s.raise k).port p = if k.routed p then (s.port p).note k else s.port p := by
  cases p <;> rfl

@[simp] theorem State.raiseIf_supply (s : State) (b : Bool) (k : Notice) : (s.raiseIf b k).supply = s.supply := by cases b <;> rfl
@[simp] theorem State.raiseIf_cause (s : State) (b : Bool) (k : Notice) : (s.raiseIf b k).cause = s.cause := by cases b <;> rfl
@[simp] theorem State.raiseIf_mtu (s : State) (b : Bool) (k : Notice) : (s.raiseIf b k).mtu = s.mtu := by cases b <;> rfl
@[simp] theorem State.raiseIf_frg (s : State) (b : Bool) (k : Notice) : (s.raiseIf b k).frg = s.frg := by cases b <;> rfl
@[simp] theorem State.raiseIf_tiu (s : State) (b : Bool) (k : Notice) : (s.raiseIf b k).tiu = s.tiu := by cases b <;> rfl
@[simp] theorem State.raiseIf_cgr (s : State) (b : Bool) (k : Notice) : (s.raiseIf b k).cgr = s.cgr := by cases b <;> rfl
@[simp] theorem State.raiseIf_eng (s : State) (b : Bool) (k : Notice) : (s.raiseIf b k).eng = s.eng := by cases b <;> rfl
@[simp] theorem State.raiseIf_cmt (s : State) (b : Bool) (k : Notice) : (s.raiseIf b k).cmt = s.cmt := by cases b <;> rfl
@[simp] theorem State.raiseIf_acu (s : State) (b : Bool) (k : Notice) : (s.raiseIf b k).acu = s.acu := by cases b <;> rfl
@[simp] theorem State.raiseIf_dsp (s : State) (b : Bool) (k : Notice) : (s.raiseIf b k).dsp = s.dsp := by cases b <;> rfl
@[simp] theorem State.raiseIf_dvu (s : State) (b : Bool) (k : Notice) : (s.raiseIf b k).dvu = s.dvu := by cases b <;> rfl
@[simp] theorem State.raiseIf_pending (s : State) (b : Bool) (k : Notice) : (s.raiseIf b k).pending = s.pending := by cases b <;> rfl

theorem State.port_raiseIf (s : State) (b : Bool) (k : Notice) (p : Port) :
    (s.raiseIf b k).port p = if b && k.routed p then (s.port p).note k else s.port p := by
  cases b <;> simp [State.raiseIf, State.port_raise]

@[simp] theorem State.raiseTimes_supply (s : State) (k : Notice) (n : Nat) : (s.raiseTimes k n).supply = s.supply := by
  induction n generalizing s with
  | zero => rfl
  | succ n ih => simp [State.raiseTimes, ih]
@[simp] theorem State.raiseTimes_cause (s : State) (k : Notice) (n : Nat) : (s.raiseTimes k n).cause = s.cause := by
  induction n generalizing s with
  | zero => rfl
  | succ n ih => simp [State.raiseTimes, ih]
@[simp] theorem State.raiseTimes_mtu (s : State) (k : Notice) (n : Nat) : (s.raiseTimes k n).mtu = s.mtu := by
  induction n generalizing s with
  | zero => rfl
  | succ n ih => simp [State.raiseTimes, ih]
@[simp] theorem State.raiseTimes_frg (s : State) (k : Notice) (n : Nat) : (s.raiseTimes k n).frg = s.frg := by
  induction n generalizing s with
  | zero => rfl
  | succ n ih => simp [State.raiseTimes, ih]
@[simp] theorem State.raiseTimes_tiu (s : State) (k : Notice) (n : Nat) : (s.raiseTimes k n).tiu = s.tiu := by
  induction n generalizing s with
  | zero => rfl
  | succ n ih => simp [State.raiseTimes, ih]
@[simp] theorem State.raiseTimes_cgr (s : State) (k : Notice) (n : Nat) : (s.raiseTimes k n).cgr = s.cgr := by
  induction n generalizing s with
  | zero => rfl
  | succ n ih => simp [State.raiseTimes, ih]
@[simp] theorem State.raiseTimes_eng (s : State) (k : Notice) (n : Nat) : (s.raiseTimes k n).eng = s.eng := by
  induction n generalizing s with
  | zero => rfl
  | succ n ih => simp [State.raiseTimes, ih]
@[simp] theorem State.raiseTimes_cmt (s : State) (k : Notice) (n : Nat) : (s.raiseTimes k n).cmt = s.cmt := by
  induction n generalizing s with
  | zero => rfl
  | succ n ih => simp [State.raiseTimes, ih]
@[simp] theorem State.raiseTimes_acu (s : State) (k : Notice) (n : Nat) : (s.raiseTimes k n).acu = s.acu := by
  induction n generalizing s with
  | zero => rfl
  | succ n ih => simp [State.raiseTimes, ih]
@[simp] theorem State.raiseTimes_dsp (s : State) (k : Notice) (n : Nat) : (s.raiseTimes k n).dsp = s.dsp := by
  induction n generalizing s with
  | zero => rfl
  | succ n ih => simp [State.raiseTimes, ih]
@[simp] theorem State.raiseTimes_dvu (s : State) (k : Notice) (n : Nat) : (s.raiseTimes k n).dvu = s.dvu := by
  induction n generalizing s with
  | zero => rfl
  | succ n ih => simp [State.raiseTimes, ih]
@[simp] theorem State.raiseTimes_pending (s : State) (k : Notice) (n : Nat) : (s.raiseTimes k n).pending = s.pending := by
  induction n generalizing s with
  | zero => rfl
  | succ n ih => simp [State.raiseTimes, ih]
@[simp] theorem State.complete_supply (s : State) (p : Port) (r : Reply) : (s.complete p r).supply = s.supply := by simp [State.complete]
@[simp] theorem State.complete_cause (s : State) (p : Port) (r : Reply) : (s.complete p r).cause = s.cause := by simp [State.complete]
@[simp] theorem State.complete_mtu (s : State) (p : Port) (r : Reply) : (s.complete p r).mtu = s.mtu := by simp [State.complete]
@[simp] theorem State.complete_frg (s : State) (p : Port) (r : Reply) : (s.complete p r).frg = s.frg := by simp [State.complete]
@[simp] theorem State.complete_tiu (s : State) (p : Port) (r : Reply) : (s.complete p r).tiu = s.tiu := by simp [State.complete]
@[simp] theorem State.complete_cgr (s : State) (p : Port) (r : Reply) : (s.complete p r).cgr = s.cgr := by simp [State.complete]
@[simp] theorem State.complete_eng (s : State) (p : Port) (r : Reply) : (s.complete p r).eng = s.eng := by simp [State.complete]
@[simp] theorem State.complete_cmt (s : State) (p : Port) (r : Reply) : (s.complete p r).cmt = s.cmt := by simp [State.complete]
@[simp] theorem State.complete_acu (s : State) (p : Port) (r : Reply) : (s.complete p r).acu = s.acu := by simp [State.complete]
@[simp] theorem State.complete_dsp (s : State) (p : Port) (r : Reply) : (s.complete p r).dsp = s.dsp := by simp [State.complete]
@[simp] theorem State.complete_dvu (s : State) (p : Port) (r : Reply) : (s.complete p r).dvu = s.dvu := by simp [State.complete]
@[simp] theorem State.complete_pending (s : State) (p : Port) (r : Reply) : (s.complete p r).pending = s.pending := by simp [State.complete]

theorem State.port_complete (s : State) (p q : Port) (r : Reply) :
    (s.complete p r).port q = if q = p then { s.port p with replies := (s.port p).replies ++ [r] } else s.port q := by
  simp [State.complete, State.port_withPort]

/-! ### The engine raised, joined, ended -/

@[simp] theorem State.raiseDispatch_supply (s : State) : (s.raiseDispatch).supply = s.supply := rfl
@[simp] theorem State.raiseDispatch_cause (s : State) : (s.raiseDispatch).cause = s.cause := rfl
@[simp] theorem State.raiseDispatch_mtu (s : State) : (s.raiseDispatch).mtu = s.mtu := rfl
@[simp] theorem State.raiseDispatch_frg (s : State) : (s.raiseDispatch).frg = s.frg := rfl
@[simp] theorem State.raiseDispatch_tiu (s : State) : (s.raiseDispatch).tiu = s.tiu := rfl
@[simp] theorem State.raiseDispatch_cgr (s : State) : (s.raiseDispatch).cgr = s.cgr := rfl
@[simp] theorem State.raiseDispatch_cmt (s : State) : (s.raiseDispatch).cmt = s.cmt := rfl
@[simp] theorem State.raiseDispatch_acu (s : State) : (s.raiseDispatch).acu = s.acu := rfl
@[simp] theorem State.raiseDispatch_dsp (s : State) : (s.raiseDispatch).dsp = s.dsp := rfl
@[simp] theorem State.raiseDispatch_dvu (s : State) : (s.raiseDispatch).dvu = s.dvu := rfl
@[simp] theorem State.raiseDispatch_pending (s : State) : (s.raiseDispatch).pending = s.pending := rfl

@[simp] theorem State.raiseDispatch_port (s : State) (p : Port) : (s.raiseDispatch).port p = s.port p := by cases p <;> rfl

@[simp] theorem State.raiseDispatchIf_supply (s : State) (b : Bool) : (s.raiseDispatchIf b).supply = s.supply := by cases b <;> rfl
@[simp] theorem State.raiseDispatchIf_cause (s : State) (b : Bool) : (s.raiseDispatchIf b).cause = s.cause := by cases b <;> rfl
@[simp] theorem State.raiseDispatchIf_mtu (s : State) (b : Bool) : (s.raiseDispatchIf b).mtu = s.mtu := by cases b <;> rfl
@[simp] theorem State.raiseDispatchIf_frg (s : State) (b : Bool) : (s.raiseDispatchIf b).frg = s.frg := by cases b <;> rfl
@[simp] theorem State.raiseDispatchIf_tiu (s : State) (b : Bool) : (s.raiseDispatchIf b).tiu = s.tiu := by cases b <;> rfl
@[simp] theorem State.raiseDispatchIf_cgr (s : State) (b : Bool) : (s.raiseDispatchIf b).cgr = s.cgr := by cases b <;> rfl
@[simp] theorem State.raiseDispatchIf_cmt (s : State) (b : Bool) : (s.raiseDispatchIf b).cmt = s.cmt := by cases b <;> rfl
@[simp] theorem State.raiseDispatchIf_acu (s : State) (b : Bool) : (s.raiseDispatchIf b).acu = s.acu := by cases b <;> rfl
@[simp] theorem State.raiseDispatchIf_dsp (s : State) (b : Bool) : (s.raiseDispatchIf b).dsp = s.dsp := by cases b <;> rfl
@[simp] theorem State.raiseDispatchIf_dvu (s : State) (b : Bool) : (s.raiseDispatchIf b).dvu = s.dvu := by cases b <;> rfl
@[simp] theorem State.raiseDispatchIf_pending (s : State) (b : Bool) : (s.raiseDispatchIf b).pending = s.pending := by cases b <;> rfl

@[simp] theorem State.raiseDispatchIf_port (s : State) (b : Bool) (p : Port) : (s.raiseDispatchIf b).port p = s.port p := by cases b <;> cases p <;> rfl

@[simp] theorem State.raiseHousekeeping_supply (s : State) : (s.raiseHousekeeping).supply = s.supply := rfl
@[simp] theorem State.raiseHousekeeping_cause (s : State) : (s.raiseHousekeeping).cause = s.cause := rfl
@[simp] theorem State.raiseHousekeeping_mtu (s : State) : (s.raiseHousekeeping).mtu = s.mtu := rfl
@[simp] theorem State.raiseHousekeeping_frg (s : State) : (s.raiseHousekeeping).frg = s.frg := rfl
@[simp] theorem State.raiseHousekeeping_tiu (s : State) : (s.raiseHousekeeping).tiu = s.tiu := rfl
@[simp] theorem State.raiseHousekeeping_cgr (s : State) : (s.raiseHousekeeping).cgr = s.cgr := rfl
@[simp] theorem State.raiseHousekeeping_cmt (s : State) : (s.raiseHousekeeping).cmt = s.cmt := rfl
@[simp] theorem State.raiseHousekeeping_acu (s : State) : (s.raiseHousekeeping).acu = s.acu := rfl
@[simp] theorem State.raiseHousekeeping_dsp (s : State) : (s.raiseHousekeeping).dsp = s.dsp := rfl
@[simp] theorem State.raiseHousekeeping_dvu (s : State) : (s.raiseHousekeeping).dvu = s.dvu := rfl
@[simp] theorem State.raiseHousekeeping_pending (s : State) : (s.raiseHousekeeping).pending = s.pending := rfl

@[simp] theorem State.raiseHousekeeping_port (s : State) (p : Port) : (s.raiseHousekeeping).port p = s.port p := by cases p <;> rfl

@[simp] theorem State.raiseRollup_supply (s : State) : (s.raiseRollup).supply = s.supply := rfl
@[simp] theorem State.raiseRollup_cause (s : State) : (s.raiseRollup).cause = s.cause := rfl
@[simp] theorem State.raiseRollup_mtu (s : State) : (s.raiseRollup).mtu = s.mtu := rfl
@[simp] theorem State.raiseRollup_frg (s : State) : (s.raiseRollup).frg = s.frg := rfl
@[simp] theorem State.raiseRollup_tiu (s : State) : (s.raiseRollup).tiu = s.tiu := rfl
@[simp] theorem State.raiseRollup_cgr (s : State) : (s.raiseRollup).cgr = s.cgr := rfl
@[simp] theorem State.raiseRollup_cmt (s : State) : (s.raiseRollup).cmt = s.cmt := rfl
@[simp] theorem State.raiseRollup_acu (s : State) : (s.raiseRollup).acu = s.acu := rfl
@[simp] theorem State.raiseRollup_dsp (s : State) : (s.raiseRollup).dsp = s.dsp := rfl
@[simp] theorem State.raiseRollup_dvu (s : State) : (s.raiseRollup).dvu = s.dvu := rfl
@[simp] theorem State.raiseRollup_pending (s : State) : (s.raiseRollup).pending = s.pending := rfl

@[simp] theorem State.raiseRollup_port (s : State) (p : Port) : (s.raiseRollup).port p = s.port p := by cases p <;> rfl

@[simp] theorem State.joinActivation_supply (s : State) (a : ActEntry) : (s.joinActivation a).supply = s.supply := rfl
@[simp] theorem State.joinActivation_cause (s : State) (a : ActEntry) : (s.joinActivation a).cause = s.cause := rfl
@[simp] theorem State.joinActivation_mtu (s : State) (a : ActEntry) : (s.joinActivation a).mtu = s.mtu := rfl
@[simp] theorem State.joinActivation_frg (s : State) (a : ActEntry) : (s.joinActivation a).frg = s.frg := rfl
@[simp] theorem State.joinActivation_tiu (s : State) (a : ActEntry) : (s.joinActivation a).tiu = s.tiu := rfl
@[simp] theorem State.joinActivation_cgr (s : State) (a : ActEntry) : (s.joinActivation a).cgr = s.cgr := rfl
@[simp] theorem State.joinActivation_cmt (s : State) (a : ActEntry) : (s.joinActivation a).cmt = s.cmt := rfl
@[simp] theorem State.joinActivation_acu (s : State) (a : ActEntry) : (s.joinActivation a).acu = s.acu := rfl
@[simp] theorem State.joinActivation_dsp (s : State) (a : ActEntry) : (s.joinActivation a).dsp = s.dsp := rfl
@[simp] theorem State.joinActivation_dvu (s : State) (a : ActEntry) : (s.joinActivation a).dvu = s.dvu := rfl
@[simp] theorem State.joinActivation_pending (s : State) (a : ActEntry) : (s.joinActivation a).pending = s.pending := rfl

@[simp] theorem State.joinActivation_port (s : State) (a : ActEntry) (p : Port) : (s.joinActivation a).port p = s.port p := by cases p <;> rfl

@[simp] theorem State.endJob_supply (s : State) : (s.endJob).supply = s.supply := rfl
@[simp] theorem State.endJob_cause (s : State) : (s.endJob).cause = s.cause := rfl
@[simp] theorem State.endJob_mtu (s : State) : (s.endJob).mtu = s.mtu := rfl
@[simp] theorem State.endJob_frg (s : State) : (s.endJob).frg = s.frg := rfl
@[simp] theorem State.endJob_tiu (s : State) : (s.endJob).tiu = s.tiu := rfl
@[simp] theorem State.endJob_cgr (s : State) : (s.endJob).cgr = s.cgr := rfl
@[simp] theorem State.endJob_cmt (s : State) : (s.endJob).cmt = s.cmt := rfl
@[simp] theorem State.endJob_acu (s : State) : (s.endJob).acu = s.acu := rfl
@[simp] theorem State.endJob_dsp (s : State) : (s.endJob).dsp = s.dsp := rfl
@[simp] theorem State.endJob_dvu (s : State) : (s.endJob).dvu = s.dvu := rfl
@[simp] theorem State.endJob_pending (s : State) : (s.endJob).pending = s.pending := rfl

@[simp] theorem State.endJob_port (s : State) (p : Port) : (s.endJob).port p = s.port p := by cases p <;> rfl

@[simp] theorem State.enqueue_supply (s : State) (x : Entry) : (s.enqueue x).supply = s.supply := by
  unfold State.enqueue; split <;> rfl
@[simp] theorem State.enqueue_cause (s : State) (x : Entry) : (s.enqueue x).cause = s.cause := by
  unfold State.enqueue; split <;> rfl
@[simp] theorem State.enqueue_mtu (s : State) (x : Entry) : (s.enqueue x).mtu = s.mtu := by
  unfold State.enqueue; split <;> rfl
@[simp] theorem State.enqueue_frg (s : State) (x : Entry) : (s.enqueue x).frg = s.frg := by
  unfold State.enqueue; split <;> rfl
@[simp] theorem State.enqueue_tiu (s : State) (x : Entry) : (s.enqueue x).tiu = s.tiu := by
  unfold State.enqueue; split <;> rfl
@[simp] theorem State.enqueue_cgr (s : State) (x : Entry) : (s.enqueue x).cgr = s.cgr := by
  unfold State.enqueue; split <;> rfl
@[simp] theorem State.enqueue_cmt (s : State) (x : Entry) : (s.enqueue x).cmt = s.cmt := by
  unfold State.enqueue; split <;> rfl
@[simp] theorem State.enqueue_acu (s : State) (x : Entry) : (s.enqueue x).acu = s.acu := by
  unfold State.enqueue; split <;> rfl
@[simp] theorem State.enqueue_dsp (s : State) (x : Entry) : (s.enqueue x).dsp = s.dsp := by
  unfold State.enqueue; split <;> rfl
@[simp] theorem State.enqueue_dvu (s : State) (x : Entry) : (s.enqueue x).dvu = s.dvu := by
  unfold State.enqueue; split <;> rfl
@[simp] theorem State.enqueue_pending (s : State) (x : Entry) : (s.enqueue x).pending = s.pending := by
  unfold State.enqueue; split <;> rfl

@[simp] theorem State.enqueue_port (s : State) (x : Entry) (p : Port) : (s.enqueue x).port p = s.port p := by
  unfold State.enqueue; split <;> cases p <;> rfl

/-! ### A job started, a time state entered -/

@[simp] theorem State.startNext_supply (s : State) : (s.startNext).supply = s.supply := by
  simp only [State.startNext, State.startDispatch, State.startAdmission]; repeat' split
  all_goals rfl
@[simp] theorem State.startNext_cause (s : State) : (s.startNext).cause = s.cause := by
  simp only [State.startNext, State.startDispatch, State.startAdmission]; repeat' split
  all_goals rfl
@[simp] theorem State.startNext_mtu (s : State) : (s.startNext).mtu = s.mtu := by
  simp only [State.startNext, State.startDispatch, State.startAdmission]; repeat' split
  all_goals rfl
@[simp] theorem State.startNext_frg (s : State) : (s.startNext).frg = s.frg := by
  simp only [State.startNext, State.startDispatch, State.startAdmission]; repeat' split
  all_goals rfl
@[simp] theorem State.startNext_tiu (s : State) : (s.startNext).tiu = s.tiu := by
  simp only [State.startNext, State.startDispatch, State.startAdmission]; repeat' split
  all_goals rfl
@[simp] theorem State.startNext_cgr (s : State) : (s.startNext).cgr = s.cgr := by
  simp only [State.startNext, State.startDispatch, State.startAdmission]; repeat' split
  all_goals rfl
@[simp] theorem State.startNext_cmt (s : State) : (s.startNext).cmt = s.cmt := by
  simp only [State.startNext, State.startDispatch, State.startAdmission]; repeat' split
  all_goals rfl
@[simp] theorem State.startNext_acu (s : State) : (s.startNext).acu = s.acu := by
  simp only [State.startNext, State.startDispatch, State.startAdmission]; repeat' split
  all_goals rfl
@[simp] theorem State.startNext_dvu (s : State) : (s.startNext).dvu = s.dvu := by
  simp only [State.startNext, State.startDispatch, State.startAdmission]; repeat' split
  all_goals rfl
@[simp] theorem State.startNext_pending (s : State) : (s.startNext).pending = s.pending := by
  simp only [State.startNext, State.startDispatch, State.startAdmission]; repeat' split
  all_goals rfl
@[simp] theorem State.choose_supply (s : State) : (s.choose).supply = s.supply := by
  unfold State.choose; split <;> simp
@[simp] theorem State.choose_cause (s : State) : (s.choose).cause = s.cause := by
  unfold State.choose; split <;> simp
@[simp] theorem State.choose_mtu (s : State) : (s.choose).mtu = s.mtu := by
  unfold State.choose; split <;> simp
@[simp] theorem State.choose_frg (s : State) : (s.choose).frg = s.frg := by
  unfold State.choose; split <;> simp
@[simp] theorem State.choose_tiu (s : State) : (s.choose).tiu = s.tiu := by
  unfold State.choose; split <;> simp
@[simp] theorem State.choose_cgr (s : State) : (s.choose).cgr = s.cgr := by
  unfold State.choose; split <;> simp
@[simp] theorem State.choose_cmt (s : State) : (s.choose).cmt = s.cmt := by
  unfold State.choose; split <;> simp
@[simp] theorem State.choose_acu (s : State) : (s.choose).acu = s.acu := by
  unfold State.choose; split <;> simp
@[simp] theorem State.choose_dvu (s : State) : (s.choose).dvu = s.dvu := by
  unfold State.choose; split <;> simp
@[simp] theorem State.choose_pending (s : State) : (s.choose).pending = s.pending := by
  unfold State.choose; split <;> simp

@[simp] theorem State.startNext_port (s : State) (p : Port) : (s.startNext).port p = s.port p := by
  cases p <;> simp only [State.startNext, State.startDispatch, State.startAdmission] <;> repeat' split
  all_goals rfl

@[simp] theorem State.choose_port (s : State) (p : Port) : (s.choose).port p = s.port p := by
  unfold State.choose; split <;> simp

@[simp] theorem State.enterTimeState_supply (s : State) (t : TimeState) : (s.enterTimeState t).supply = s.supply := rfl
@[simp] theorem State.enterTimeState_cause (s : State) (t : TimeState) : (s.enterTimeState t).cause = s.cause := rfl
@[simp] theorem State.enterTimeState_frg (s : State) (t : TimeState) : (s.enterTimeState t).frg = s.frg := rfl
@[simp] theorem State.enterTimeState_tiu (s : State) (t : TimeState) : (s.enterTimeState t).tiu = s.tiu := rfl
@[simp] theorem State.enterTimeState_cgr (s : State) (t : TimeState) : (s.enterTimeState t).cgr = s.cgr := rfl
@[simp] theorem State.enterTimeState_eng (s : State) (t : TimeState) : (s.enterTimeState t).eng = s.eng := rfl
@[simp] theorem State.enterTimeState_cmt (s : State) (t : TimeState) : (s.enterTimeState t).cmt = s.cmt := rfl
@[simp] theorem State.enterTimeState_acu (s : State) (t : TimeState) : (s.enterTimeState t).acu = s.acu := rfl
@[simp] theorem State.enterTimeState_dsp (s : State) (t : TimeState) : (s.enterTimeState t).dsp = s.dsp := rfl
@[simp] theorem State.enterTimeState_dvu (s : State) (t : TimeState) : (s.enterTimeState t).dvu = s.dvu := rfl
@[simp] theorem State.enterTimeState_pending (s : State) (t : TimeState) : (s.enterTimeState t).pending = s.pending := rfl
@[simp] theorem State.enterTimeState_mtu (s : State) (t : TimeState) :
    (s.enterTimeState t).mtu = { s.mtu with timeState := t } := rfl

end Sys2Proof.Machine
end

