-- ==== Sys2Proof/Laws/Events.lean ====
section
/-! SUPPORT. For each event of the blocks outside the engine (chapters 1, 9 and 10), one lemma for each field it leaves as
it is. -/

namespace Sys2Proof.Machine

/-! ### Second marks, boundaries and pulses -/

@[simp] theorem State.periodicTimer_supply (s : State) : (s.periodicTimer).supply = s.supply := by
  unfold State.periodicTimer; split <;> rfl
@[simp] theorem State.periodicTimer_cause (s : State) : (s.periodicTimer).cause = s.cause := by
  unfold State.periodicTimer; split <;> rfl
@[simp] theorem State.periodicTimer_mtu (s : State) : (s.periodicTimer).mtu = s.mtu := by
  unfold State.periodicTimer; split <;> rfl
@[simp] theorem State.periodicTimer_frg (s : State) : (s.periodicTimer).frg = s.frg := by
  unfold State.periodicTimer; split <;> rfl
@[simp] theorem State.periodicTimer_cgr (s : State) : (s.periodicTimer).cgr = s.cgr := by
  unfold State.periodicTimer; split <;> rfl
@[simp] theorem State.periodicTimer_cmt (s : State) : (s.periodicTimer).cmt = s.cmt := by
  unfold State.periodicTimer; split <;> rfl
@[simp] theorem State.periodicTimer_acu (s : State) : (s.periodicTimer).acu = s.acu := by
  unfold State.periodicTimer; split <;> rfl
@[simp] theorem State.periodicTimer_dsp (s : State) : (s.periodicTimer).dsp = s.dsp := by
  unfold State.periodicTimer; split <;> rfl
@[simp] theorem State.periodicTimer_dvu (s : State) : (s.periodicTimer).dvu = s.dvu := by
  unfold State.periodicTimer; split <;> rfl
@[simp] theorem State.periodicTimer_pending (s : State) : (s.periodicTimer).pending = s.pending := by
  unfold State.periodicTimer; split <;> rfl

/-! ### The count of a second -/

@[simp] theorem State.countSecond_supply (s : State) : (s.countSecond).supply = s.supply := by
  simp [State.countSecond]
@[simp] theorem State.countSecond_cause (s : State) : (s.countSecond).cause = s.cause := by
  simp [State.countSecond]
@[simp] theorem State.countSecond_frg (s : State) : (s.countSecond).frg = s.frg := by
  simp [State.countSecond]
@[simp] theorem State.countSecond_cgr (s : State) : (s.countSecond).cgr = s.cgr := by
  simp [State.countSecond]
@[simp] theorem State.countSecond_cmt (s : State) : (s.countSecond).cmt = s.cmt := by
  simp [State.countSecond]
@[simp] theorem State.countSecond_acu (s : State) : (s.countSecond).acu = s.acu := by
  simp [State.countSecond]
@[simp] theorem State.countSecond_dsp (s : State) : (s.countSecond).dsp = s.dsp := by
  simp [State.countSecond]
@[simp] theorem State.countSecond_dvu (s : State) : (s.countSecond).dvu = s.dvu := by
  simp [State.countSecond]
@[simp] theorem State.countSecond_pending (s : State) : (s.countSecond).pending = s.pending := by
  simp [State.countSecond]

/-! ### The second in interval -/

@[simp] theorem State.advanceSecond_supply (s : State) : (s.advanceSecond).supply = s.supply := by
  unfold State.advanceSecond State.boundary; split <;> first | rfl | (dsimp only; split <;> rfl)
@[simp] theorem State.advanceSecond_cause (s : State) : (s.advanceSecond).cause = s.cause := by
  unfold State.advanceSecond State.boundary; split <;> first | rfl | (dsimp only; split <;> rfl)
@[simp] theorem State.advanceSecond_frg (s : State) : (s.advanceSecond).frg = s.frg := by
  unfold State.advanceSecond State.boundary; split <;> first | rfl | (dsimp only; split <;> rfl)
@[simp] theorem State.advanceSecond_tiu (s : State) : (s.advanceSecond).tiu = s.tiu := by
  unfold State.advanceSecond State.boundary; split <;> first | rfl | (dsimp only; split <;> rfl)
@[simp] theorem State.advanceSecond_cgr (s : State) : (s.advanceSecond).cgr = s.cgr := by
  unfold State.advanceSecond State.boundary; split <;> first | rfl | (dsimp only; split <;> rfl)
@[simp] theorem State.advanceSecond_cmt (s : State) : (s.advanceSecond).cmt = s.cmt := by
  unfold State.advanceSecond State.boundary; split <;> first | rfl | (dsimp only; split <;> rfl)
@[simp] theorem State.advanceSecond_acu (s : State) : (s.advanceSecond).acu = s.acu := by
  unfold State.advanceSecond State.boundary; split <;> first | rfl | (dsimp only; split <;> rfl)
@[simp] theorem State.advanceSecond_dsp (s : State) : (s.advanceSecond).dsp = s.dsp := by
  unfold State.advanceSecond State.boundary; split <;> first | rfl | (dsimp only; split <;> rfl)
@[simp] theorem State.advanceSecond_dvu (s : State) : (s.advanceSecond).dvu = s.dvu := by
  unfold State.advanceSecond State.boundary; split <;> first | rfl | (dsimp only; split <;> rfl)
@[simp] theorem State.advanceSecond_pending (s : State) : (s.advanceSecond).pending = s.pending := by
  unfold State.advanceSecond State.boundary; split <;> first | rfl | (dsimp only; split <;> rfl)

/-! ### A second mark -/

@[simp] theorem State.secondMark_supply (s : State) : (s.secondMark).supply = s.supply := by
  unfold State.secondMark; split <;> simp
@[simp] theorem State.secondMark_cause (s : State) : (s.secondMark).cause = s.cause := by
  unfold State.secondMark; split <;> simp
@[simp] theorem State.secondMark_frg (s : State) : (s.secondMark).frg = s.frg := by
  unfold State.secondMark; split <;> simp
@[simp] theorem State.secondMark_cgr (s : State) : (s.secondMark).cgr = s.cgr := by
  unfold State.secondMark; split <;> simp
@[simp] theorem State.secondMark_cmt (s : State) : (s.secondMark).cmt = s.cmt := by
  unfold State.secondMark; split <;> simp
@[simp] theorem State.secondMark_acu (s : State) : (s.secondMark).acu = s.acu := by
  unfold State.secondMark; split <;> simp
@[simp] theorem State.secondMark_dsp (s : State) : (s.secondMark).dsp = s.dsp := by
  unfold State.secondMark; split <;> simp
@[simp] theorem State.secondMark_dvu (s : State) : (s.secondMark).dvu = s.dvu := by
  unfold State.secondMark; split <;> simp
@[simp] theorem State.secondMark_pending (s : State) : (s.secondMark).pending = s.pending := by
  unfold State.secondMark; split <;> simp

@[simp] theorem State.periodicTimer_port (s : State) (p : Port) : (s.periodicTimer).port p = s.port p := by
  unfold State.periodicTimer; split <;> cases p <;> rfl

@[simp] theorem State.countSecond_port (s : State) (p : Port) : (s.countSecond).port p = s.port p := by
  rw [State.countSecond, State.periodicTimer_port]; cases p <;> rfl

@[simp] theorem State.advanceSecond_port (s : State) (p : Port) : (s.advanceSecond).port p = s.port p := by
  unfold State.advanceSecond State.boundary
  split <;> first | (cases p <;> rfl) | (dsimp only; split <;> cases p <;> rfl)

@[simp] theorem State.secondMark_port (s : State) (p : Port) : (s.secondMark).port p = s.port p := by
  unfold State.secondMark; split <;> simp

/-! ### A missing pulse -/

@[simp] theorem State.missPulse_supply (s : State) : (s.missPulse).supply = s.supply := by
  unfold State.missPulse; dsimp only; split <;> first | rfl | (split <;> rfl)
@[simp] theorem State.missPulse_cause (s : State) : (s.missPulse).cause = s.cause := by
  unfold State.missPulse; dsimp only; split <;> first | rfl | (split <;> rfl)
@[simp] theorem State.missPulse_frg (s : State) : (s.missPulse).frg = s.frg := by
  unfold State.missPulse; dsimp only; split <;> first | rfl | (split <;> rfl)
@[simp] theorem State.missPulse_tiu (s : State) : (s.missPulse).tiu = s.tiu := by
  unfold State.missPulse; dsimp only; split <;> first | rfl | (split <;> rfl)
@[simp] theorem State.missPulse_cgr (s : State) : (s.missPulse).cgr = s.cgr := by
  unfold State.missPulse; dsimp only; split <;> first | rfl | (split <;> rfl)
@[simp] theorem State.missPulse_eng (s : State) : (s.missPulse).eng = s.eng := by
  unfold State.missPulse; dsimp only; split <;> first | rfl | (split <;> rfl)
@[simp] theorem State.missPulse_cmt (s : State) : (s.missPulse).cmt = s.cmt := by
  unfold State.missPulse; dsimp only; split <;> first | rfl | (split <;> rfl)
@[simp] theorem State.missPulse_acu (s : State) : (s.missPulse).acu = s.acu := by
  unfold State.missPulse; dsimp only; split <;> first | rfl | (split <;> rfl)
@[simp] theorem State.missPulse_dsp (s : State) : (s.missPulse).dsp = s.dsp := by
  unfold State.missPulse; dsimp only; split <;> first | rfl | (split <;> rfl)
@[simp] theorem State.missPulse_dvu (s : State) : (s.missPulse).dvu = s.dvu := by
  unfold State.missPulse; dsimp only; split <;> first | rfl | (split <;> rfl)
@[simp] theorem State.missPulse_pending (s : State) : (s.missPulse).pending = s.pending := by
  unfold State.missPulse; dsimp only; split <;> first | rfl | (split <;> rfl)

/-! ### A good or a stray pulse counted -/

@[simp] theorem State.countGood_supply (s : State) : (s.countGood).supply = s.supply := by
  unfold State.countGood; split <;> first | rfl | (split <;> rfl)
@[simp] theorem State.countGood_cause (s : State) : (s.countGood).cause = s.cause := by
  unfold State.countGood; split <;> first | rfl | (split <;> rfl)
@[simp] theorem State.countGood_frg (s : State) : (s.countGood).frg = s.frg := by
  unfold State.countGood; split <;> first | rfl | (split <;> rfl)
@[simp] theorem State.countGood_tiu (s : State) : (s.countGood).tiu = s.tiu := by
  unfold State.countGood; split <;> first | rfl | (split <;> rfl)
@[simp] theorem State.countGood_cgr (s : State) : (s.countGood).cgr = s.cgr := by
  unfold State.countGood; split <;> first | rfl | (split <;> rfl)
@[simp] theorem State.countGood_eng (s : State) : (s.countGood).eng = s.eng := by
  unfold State.countGood; split <;> first | rfl | (split <;> rfl)
@[simp] theorem State.countGood_cmt (s : State) : (s.countGood).cmt = s.cmt := by
  unfold State.countGood; split <;> first | rfl | (split <;> rfl)
@[simp] theorem State.countGood_acu (s : State) : (s.countGood).acu = s.acu := by
  unfold State.countGood; split <;> first | rfl | (split <;> rfl)
@[simp] theorem State.countGood_dsp (s : State) : (s.countGood).dsp = s.dsp := by
  unfold State.countGood; split <;> first | rfl | (split <;> rfl)
@[simp] theorem State.countGood_dvu (s : State) : (s.countGood).dvu = s.dvu := by
  unfold State.countGood; split <;> first | rfl | (split <;> rfl)
@[simp] theorem State.countGood_pending (s : State) : (s.countGood).pending = s.pending := by
  unfold State.countGood; split <;> first | rfl | (split <;> rfl)

/-! ### The MTU at a tick event -/

@[simp] theorem State.mtuTick_supply (s : State) : (s.mtuTick).supply = s.supply := by
  unfold State.mtuTick; dsimp only; split <;> (split <;> simp)
@[simp] theorem State.mtuTick_cause (s : State) : (s.mtuTick).cause = s.cause := by
  unfold State.mtuTick; dsimp only; split <;> (split <;> simp)
@[simp] theorem State.mtuTick_frg (s : State) : (s.mtuTick).frg = s.frg := by
  unfold State.mtuTick; dsimp only; split <;> (split <;> simp)
@[simp] theorem State.mtuTick_cgr (s : State) : (s.mtuTick).cgr = s.cgr := by
  unfold State.mtuTick; dsimp only; split <;> (split <;> simp)
@[simp] theorem State.mtuTick_cmt (s : State) : (s.mtuTick).cmt = s.cmt := by
  unfold State.mtuTick; dsimp only; split <;> (split <;> simp)
@[simp] theorem State.mtuTick_acu (s : State) : (s.mtuTick).acu = s.acu := by
  unfold State.mtuTick; dsimp only; split <;> (split <;> simp)
@[simp] theorem State.mtuTick_dsp (s : State) : (s.mtuTick).dsp = s.dsp := by
  unfold State.mtuTick; dsimp only; split <;> (split <;> simp)
@[simp] theorem State.mtuTick_dvu (s : State) : (s.mtuTick).dvu = s.dvu := by
  unfold State.mtuTick; dsimp only; split <;> (split <;> simp)
@[simp] theorem State.mtuTick_pending (s : State) : (s.mtuTick).pending = s.pending := by
  unfold State.mtuTick; dsimp only; split <;> (split <;> simp)

/-! ### The activation records at a tick event -/

@[simp] theorem State.rampTick_supply (s : State) : (s.rampTick).supply = s.supply := by
  simp [State.rampTick]
@[simp] theorem State.rampTick_cause (s : State) : (s.rampTick).cause = s.cause := by
  simp [State.rampTick]
@[simp] theorem State.rampTick_mtu (s : State) : (s.rampTick).mtu = s.mtu := by
  simp [State.rampTick]
@[simp] theorem State.rampTick_frg (s : State) : (s.rampTick).frg = s.frg := by
  simp [State.rampTick]
@[simp] theorem State.rampTick_tiu (s : State) : (s.rampTick).tiu = s.tiu := by
  simp [State.rampTick]
@[simp] theorem State.rampTick_cgr (s : State) : (s.rampTick).cgr = s.cgr := by
  simp [State.rampTick]
@[simp] theorem State.rampTick_cmt (s : State) : (s.rampTick).cmt = s.cmt := by
  simp [State.rampTick]
@[simp] theorem State.rampTick_dsp (s : State) : (s.rampTick).dsp = s.dsp := by
  simp [State.rampTick]
@[simp] theorem State.rampTick_dvu (s : State) : (s.rampTick).dvu = s.dvu := by
  simp [State.rampTick]
@[simp] theorem State.rampTick_pending (s : State) : (s.rampTick).pending = s.pending := by
  simp [State.rampTick]

/-! ### A trip -/

@[simp] theorem State.trip_supply (s : State) (l : Line) (p : Nat) : (s.trip l p).supply = s.supply := by
  unfold State.trip; split <;> rfl
@[simp] theorem State.trip_cause (s : State) (l : Line) (p : Nat) : (s.trip l p).cause = s.cause := by
  unfold State.trip; split <;> rfl
@[simp] theorem State.trip_mtu (s : State) (l : Line) (p : Nat) : (s.trip l p).mtu = s.mtu := by
  unfold State.trip; split <;> rfl
@[simp] theorem State.trip_frg (s : State) (l : Line) (p : Nat) : (s.trip l p).frg = s.frg := by
  unfold State.trip; split <;> rfl
@[simp] theorem State.trip_tiu (s : State) (l : Line) (p : Nat) : (s.trip l p).tiu = s.tiu := by
  unfold State.trip; split <;> rfl
@[simp] theorem State.trip_cgr (s : State) (l : Line) (p : Nat) : (s.trip l p).cgr = s.cgr := by
  unfold State.trip; split <;> rfl
@[simp] theorem State.trip_cmt (s : State) (l : Line) (p : Nat) : (s.trip l p).cmt = s.cmt := by
  unfold State.trip; split <;> rfl
@[simp] theorem State.trip_acu (s : State) (l : Line) (p : Nat) : (s.trip l p).acu = s.acu := by
  unfold State.trip; split <;> rfl
@[simp] theorem State.trip_dsp (s : State) (l : Line) (p : Nat) : (s.trip l p).dsp = s.dsp := by
  unfold State.trip; split <;> rfl
@[simp] theorem State.trip_dvu (s : State) (l : Line) (p : Nat) : (s.trip l p).dvu = s.dvu := by
  unfold State.trip; split <;> rfl
@[simp] theorem State.trip_pending (s : State) (l : Line) (p : Nat) : (s.trip l p).pending = s.pending := by
  unfold State.trip; split <;> rfl

/-! ### A line qualified -/

@[simp] theorem State.qualify_supply (s : State) (l : Line) : (s.qualify l).supply = s.supply := by
  unfold State.qualify; dsimp only; split <;> simp
@[simp] theorem State.qualify_cause (s : State) (l : Line) : (s.qualify l).cause = s.cause := by
  unfold State.qualify; dsimp only; split <;> simp
@[simp] theorem State.qualify_mtu (s : State) (l : Line) : (s.qualify l).mtu = s.mtu := by
  unfold State.qualify; dsimp only; split <;> simp
@[simp] theorem State.qualify_frg (s : State) (l : Line) : (s.qualify l).frg = s.frg := by
  unfold State.qualify; dsimp only; split <;> simp
@[simp] theorem State.qualify_tiu (s : State) (l : Line) : (s.qualify l).tiu = s.tiu := by
  unfold State.qualify; dsimp only; split <;> simp
@[simp] theorem State.qualify_cgr (s : State) (l : Line) : (s.qualify l).cgr = s.cgr := by
  unfold State.qualify; dsimp only; split <;> simp
@[simp] theorem State.qualify_cmt (s : State) (l : Line) : (s.qualify l).cmt = s.cmt := by
  unfold State.qualify; dsimp only; split <;> simp
@[simp] theorem State.qualify_dsp (s : State) (l : Line) : (s.qualify l).dsp = s.dsp := by
  unfold State.qualify; dsimp only; split <;> simp
@[simp] theorem State.qualify_dvu (s : State) (l : Line) : (s.qualify l).dvu = s.dvu := by
  unfold State.qualify; dsimp only; split <;> simp
@[simp] theorem State.qualify_pending (s : State) (l : Line) : (s.qualify l).pending = s.pending := by
  unfold State.qualify; dsimp only; split <;> simp

/-! ### A line at a tick event -/

@[simp] theorem State.lineTick_supply (s : State) (l : Line) : (s.lineTick l).supply = s.supply := by
  unfold State.lineTick; dsimp only; split
  · simp
  · split <;> rfl
@[simp] theorem State.lineTick_cause (s : State) (l : Line) : (s.lineTick l).cause = s.cause := by
  unfold State.lineTick; dsimp only; split
  · simp
  · split <;> rfl
@[simp] theorem State.lineTick_mtu (s : State) (l : Line) : (s.lineTick l).mtu = s.mtu := by
  unfold State.lineTick; dsimp only; split
  · simp
  · split <;> rfl
@[simp] theorem State.lineTick_frg (s : State) (l : Line) : (s.lineTick l).frg = s.frg := by
  unfold State.lineTick; dsimp only; split
  · simp
  · split <;> rfl
@[simp] theorem State.lineTick_tiu (s : State) (l : Line) : (s.lineTick l).tiu = s.tiu := by
  unfold State.lineTick; dsimp only; split
  · simp
  · split <;> rfl
@[simp] theorem State.lineTick_cgr (s : State) (l : Line) : (s.lineTick l).cgr = s.cgr := by
  unfold State.lineTick; dsimp only; split
  · simp
  · split <;> rfl
@[simp] theorem State.lineTick_cmt (s : State) (l : Line) : (s.lineTick l).cmt = s.cmt := by
  unfold State.lineTick; dsimp only; split
  · simp
  · split <;> rfl
@[simp] theorem State.lineTick_dsp (s : State) (l : Line) : (s.lineTick l).dsp = s.dsp := by
  unfold State.lineTick; dsimp only; split
  · simp
  · split <;> rfl
@[simp] theorem State.lineTick_dvu (s : State) (l : Line) : (s.lineTick l).dvu = s.dvu := by
  unfold State.lineTick; dsimp only; split
  · simp
  · split <;> rfl
@[simp] theorem State.lineTick_pending (s : State) (l : Line) : (s.lineTick l).pending = s.pending := by
  unfold State.lineTick; dsimp only; split
  · simp
  · split <;> rfl

/-! ### The ACU at a tick event -/

@[simp] theorem State.acuTick_supply (s : State) : (s.acuTick).supply = s.supply := by
  simp [State.acuTick]
@[simp] theorem State.acuTick_cause (s : State) : (s.acuTick).cause = s.cause := by
  simp [State.acuTick]
@[simp] theorem State.acuTick_mtu (s : State) : (s.acuTick).mtu = s.mtu := by
  simp [State.acuTick]
@[simp] theorem State.acuTick_frg (s : State) : (s.acuTick).frg = s.frg := by
  simp [State.acuTick]
@[simp] theorem State.acuTick_tiu (s : State) : (s.acuTick).tiu = s.tiu := by
  simp [State.acuTick]
@[simp] theorem State.acuTick_cgr (s : State) : (s.acuTick).cgr = s.cgr := by
  simp [State.acuTick]
@[simp] theorem State.acuTick_cmt (s : State) : (s.acuTick).cmt = s.cmt := by
  simp [State.acuTick]
@[simp] theorem State.acuTick_dsp (s : State) : (s.acuTick).dsp = s.dsp := by
  simp [State.acuTick]
@[simp] theorem State.acuTick_dvu (s : State) : (s.acuTick).dvu = s.dvu := by
  simp [State.acuTick]
@[simp] theorem State.acuTick_pending (s : State) : (s.acuTick).pending = s.pending := by
  simp [State.acuTick]

/-! ### The Dispatch Unit at a tick event -/

@[simp] theorem State.dspTick_supply (s : State) : (s.dspTick).supply = s.supply := by
  simp [State.dspTick]
@[simp] theorem State.dspTick_cause (s : State) : (s.dspTick).cause = s.cause := by
  simp [State.dspTick]
@[simp] theorem State.dspTick_mtu (s : State) : (s.dspTick).mtu = s.mtu := by
  simp [State.dspTick]
@[simp] theorem State.dspTick_frg (s : State) : (s.dspTick).frg = s.frg := by
  simp [State.dspTick]
@[simp] theorem State.dspTick_tiu (s : State) : (s.dspTick).tiu = s.tiu := by
  simp [State.dspTick]
@[simp] theorem State.dspTick_cgr (s : State) : (s.dspTick).cgr = s.cgr := by
  simp [State.dspTick]
@[simp] theorem State.dspTick_cmt (s : State) : (s.dspTick).cmt = s.cmt := by
  simp [State.dspTick]
@[simp] theorem State.dspTick_acu (s : State) : (s.dspTick).acu = s.acu := by
  simp [State.dspTick]
@[simp] theorem State.dspTick_dvu (s : State) : (s.dspTick).dvu = s.dvu := by
  simp [State.dspTick]
@[simp] theorem State.dspTick_pending (s : State) : (s.dspTick).pending = s.pending := by
  simp [State.dspTick]

/-! ### A tick event -/

@[simp] theorem State.tick_supply (s : State) : (s.tick).supply = s.supply := by
  simp [State.tick]
@[simp] theorem State.tick_cause (s : State) : (s.tick).cause = s.cause := by
  simp [State.tick]
@[simp] theorem State.tick_frg (s : State) : (s.tick).frg = s.frg := by
  simp [State.tick]
@[simp] theorem State.tick_cgr (s : State) : (s.tick).cgr = s.cgr := by
  simp [State.tick]
@[simp] theorem State.tick_cmt (s : State) : (s.tick).cmt = s.cmt := by
  simp [State.tick]
@[simp] theorem State.tick_dvu (s : State) : (s.tick).dvu = s.dvu := by
  simp [State.tick]
@[simp] theorem State.tick_pending (s : State) : (s.tick).pending = s.pending := by
  simp [State.tick]

@[simp] theorem State.trip_port (s : State) (l : Line) (q : Nat) (p : Port) : (s.trip l q).port p = s.port p := by
  unfold State.trip; split <;> cases p <;> rfl

@[simp] theorem State.qualify_port (s : State) (l : Line) (p : Port) : (s.qualify l).port p = s.port p := by
  unfold State.qualify; dsimp only; split
  · rw [State.trip_port]; cases p <;> rfl
  · cases p <;> rfl

@[simp] theorem State.lineTick_port (s : State) (l : Line) (p : Port) : (s.lineTick l).port p = s.port p := by
  unfold State.lineTick; dsimp only; split
  · simp
  · split <;> cases p <;> rfl

@[simp] theorem State.dspTick_port (s : State) (p : Port) : (s.dspTick).port p = s.port p := by
  rw [State.dspTick, State.raiseDispatchIf_port]; cases p <;> rfl

end Sys2Proof.Machine
end

