-- ==== Sys2Proof/Laws/Frames.lean ====
section
/-! SUPPORT. Laws of frames (12.1, 12.2): a field and its bytes, a body and its request, and what the check of a request's own
frame gives. -/

namespace Sys2Proof.Machine

/-! ### Fields and their bytes -/

@[simp] theorem half_extract (x : Half) : half (x.extractLsb' 0 8) (x.extractLsb' 8 8) = x := by
  apply BitVec.eq_of_getLsbD_eq
  intro i h
  simp only [half, BitVec.getLsbD_append, BitVec.getLsbD_extractLsb']
  by_cases h8 : i < 8
  · simp [h8]
  · simp [h8, show i - 8 < 8 by omega, show 8 + (i - 8) = i by omega]

@[simp] theorem word_extract (x : Word) :
    word (x.extractLsb' 0 8) (x.extractLsb' 8 8) (x.extractLsb' 16 8) (x.extractLsb' 24 8) = x := by
  apply BitVec.eq_of_getLsbD_eq
  intro i h
  simp only [word, BitVec.getLsbD_append, BitVec.getLsbD_extractLsb', show (8 + (8 + 8)) = 24 from rfl]
  by_cases a : i < 8
  · simp [a, show i < 24 by omega, show i < 16 by omega]
  · by_cases b : i < 16
    · simp [a, b, show i < 24 by omega, show i - 8 < 8 by omega, show 8 + (i - 8) = i by omega]
    · by_cases c : i < 24
      · simp [b, c, show i - 16 < 8 by omega, show 16 + (i - 16) = i by omega]
      · simp [c, show i - 24 < 8 by omega, show 24 + (i - 24) = i by omega]

theorem half_natBytes (n : Nat) (h : n < 65536) : (half (BitVec.ofNat 8 n) (BitVec.ofNat 8 (n / 256))).toNat = n := by
  simp only [half, BitVec.toNat_append, BitVec.toNat_ofNat]
  rw [← Nat.shiftLeft_add_eq_or_of_lt (by omega)]
  simp only [Nat.shiftLeft_eq]
  omega

/-! ### Lists of fields -/

theorem parseHalves_flatMap (l : List Half) : parseHalves (l.flatMap halfBytes) = some l := by
  induction l with
  | nil => rfl
  | cons x t ih => simp [halfBytes, parseHalves, ih]

theorem parseReports_flatMap (l : List Report) : parseReports (l.flatMap reportBytes) = some l := by
  induction l with
  | nil => rfl
  | cons x t ih => simp [reportBytes, halfBytes, parseReports, ih]

theorem parseForecasts_flatMap (l : List ForecastArgs) : parseForecasts (l.flatMap forecastBytes) = some l := by
  induction l with
  | nil => rfl
  | cons x t ih => simp [forecastBytes, halfBytes, parseForecasts, ih]

/-! ### Bodies -/

theorem parseBody_counted (t : List Byte) : parseBody 0x32#8 t = parseCurve t ∧ parseBody 0x33#8 t = parseTelemetry t
    ∧ parseBody 0x34#8 t = parseForecast t := by
  rcases t with _ | ⟨_, _ | ⟨_, _ | ⟨_, _ | ⟨_, _ | ⟨_, _ | ⟨_, _ | ⟨_, _ | ⟨_, _ | ⟨_, _ | ⟨_, _ | ⟨_, _ | ⟨_, _ | ⟨_, _ | ⟨_,
    _ | ⟨_, t⟩⟩⟩⟩⟩⟩⟩⟩⟩⟩⟩⟩⟩⟩⟩ <;> exact ⟨rfl, rfl, rfl⟩

/-- A request's own kind and body spell it. -/
theorem parseBody_requestBody (r : Request) (h : r.wf = true) : parseBody (requestCode r) (requestBody r) = some r := by
  cases r with
  | telemetry rs =>
    simp only [Request.wf, decide_eq_true_eq] at h
    rw [requestCode, (parseBody_counted _).2.1]
    simp only [requestBody, parseTelemetry, parseReports_flatMap, BitVec.toNat_ofNat]
    exact if_pos (by omega)
  | forecast a =>
    simp only [Request.wf, decide_eq_true_eq] at h
    rw [requestCode, (parseBody_counted _).2.2]
    simp only [requestBody, wordBytes, List.cons_append, List.nil_append, parseForecast, parseForecasts_flatMap,
      BitVec.toNat_ofNat, word_extract]
    exact if_pos (by omega)
  | curveSet a =>
    simp only [Request.wf, decide_eq_true_eq] at h
    rw [requestCode, (parseBody_counted _).1]
    simp only [requestBody, List.cons_append, List.nil_append, parseCurve, parseHalves_flatMap]
    exact if_pos h
  | _ => change some _ = _; simp only [half_extract, word_extract]

theorem halfBytes_length (x : Half) : (halfBytes x).length = 2 := rfl
theorem wordBytes_length (x : Word) : (wordBytes x).length = 4 := rfl

/-- A request's body is at most the longest of TABLE 12(b). -/
theorem requestBody_length_le (r : Request) (h : r.wf = true) : (requestBody r).length ≤ Config.maxBody := by
  cases r with
  | telemetry rs =>
    simp only [Request.wf, decide_eq_true_eq] at h
    simp [requestBody, List.length_flatMap, reportBytes, halfBytes, Config.maxBody]
    omega
  | forecast a =>
    simp only [Request.wf, decide_eq_true_eq] at h
    simp [requestBody, List.length_flatMap, forecastBytes, halfBytes, wordBytes, Config.maxBody]
    omega
  | curveSet a =>
    simp only [Request.wf, decide_eq_true_eq] at h
    simp [requestBody, List.length_flatMap, halfBytes, Config.maxBody, h]
  | _ => simp [requestBody, halfBytes, wordBytes, Config.maxBody]

/-! ### Frames -/

/-- The kinds of TABLE 12(b) are known, each on at least one port. -/
theorem kindPorts_requestCode (r : Request) : ∃ l, kindPorts (requestCode r) = some l := by
  cases r <;> exact ⟨_, rfl⟩

/-- What the check of a request's own frame gives: the request, or a refusal on a port that does not permit it. -/
theorem checkFrame_requestFrame (p : Port) (tag : Byte) (r : Request) (h : r.wf = true) :
    checkFrame p (requestFrame tag r)
      = if permitted p r then .accepted tag r else .refused (requestCode r) tag .notPermitted := by
  have hn := requestBody_length_le r h
  obtain ⟨l, hl⟩ := kindPorts_requestCode r
  have hm : Config.maxBody < 65536 := by decide
  simp only [requestFrame, natBytes, List.cons_append, List.nil_append, checkFrame,
    half_natBytes _ (lt_of_le_of_lt hn hm), hl, parseBody_requestBody r h]
  rw [if_neg (by simp; omega)]
  simp only [permitted, hl, Option.getD_some]
  cases l.contains p <;> rfl

theorem checkFrame_of_presentable (p : Port) (tag : Byte) (r : Request) (h : r.presentable p = true) :
    checkFrame p (requestFrame tag r) = .accepted tag r := by
  simp only [Request.presentable, Bool.and_eq_true] at h
  rw [checkFrame_requestFrame p tag r h.2, if_pos h.1]

end Sys2Proof.Machine
end

