-- ==== Sys2Proof/Laws/Grid.lean ====
section
/-! SUPPORT. Laws of the Capability Grid's ring (5.1, 5.2): which entry a pair of group and interval names, and what a change of
loads leaves in each entry of the horizon. -/

namespace Sys2Proof.Machine

/-- Within one horizon, two pairs of group and interval never share an entry of the ring (R64). -/
theorem ringKey_eq_iff {b g h i j : Nat} (hg : g < 64) (hh : h < 64) (hi : b ≤ i ∧ i < b + 96) (hj : b ≤ j ∧ j < b + 96) :
    ringKey g i = ringKey h j ↔ g = h ∧ i = j := by
  simp only [ringKey, Config.horizon]
  omega

/-- What a changed entry reads, and that every other one stands. -/
theorem Grid.entry_modify (c : Grid) (g h i j : Nat) (f : GridEntry → GridEntry) :
    (c.modify g i f).entry h j = if ringKey h j = ringKey g i then f (c.entry g i) else c.entry h j :=
  Table.get_modify f

/-- The entry of a pair after changes of loads at a list of pairs of the horizon: each change of that pair, in order. -/
theorem Grid.entry_foldl {b g i : Nat} (hg : g < 64) (hi : b ≤ i ∧ i < b + 96) (figure : Share → Quad)
    (op : Quad → Quad → Quad) (pairs : List (Nat × Share)) :
    ∀ c : Grid, (∀ e ∈ pairs, (b ≤ e.1 ∧ e.1 < b + 96) ∧ e.2.group < 64) →
      (pairs.foldl (fun c e => c.modify e.2.group e.1 (fun x => { x with load := op x.load (figure e.2) })) c).entry g i
      = ⟨(c.entry g i).forecast, (pairs.filter (fun e => decide (e.2.group = g ∧ e.1 = i))).foldl
          (fun l e => op l (figure e.2)) (c.entry g i).load⟩ := by
  induction pairs with
  | nil => intro c _; rfl
  | cons e t ih =>
    intro c he
    have h := he e (by simp)
    have key := ringKey_eq_iff hg h.2 hi h.1
    rw [List.foldl_cons, ih _ (fun x hx => he x (by simp [hx])), Grid.entry_modify]
    by_cases heq : e.2.group = g ∧ e.1 = i
    · obtain ⟨rfl, rfl⟩ := heq
      simp
    · have hne : ringKey g i ≠ ringKey e.2.group e.1 := fun hk => heq ⟨(key.mp hk).1.symm, (key.mp hk).2.symm⟩
      simp [hne, heq]

/-- A change of loads (R67, R121, R128): each entry of the horizon that lies in the range takes the figures of its group's
shares, in order; its forecast and every other entry stand. -/
theorem State.changeLoads_entry {b g i : Nat} (s : State) (first count : Nat) (shares : List Share) (figure : Share → Quad)
    (op : Quad → Quad → Quad) (hb : s.eng.bookInterval = some b) (hs : ∀ x ∈ shares, x.group < 64) (hg : g < 64)
    (hi : b ≤ i ∧ i < b + 96) :
    (s.changeLoads first count shares figure op).cgr.entry g i = ⟨(s.cgr.entry g i).forecast,
      (if first ≤ i ∧ i < first + count then shares.filter (fun x => decide (x.group = g)) else []).foldl
        (fun l x => op l (figure x)) (s.cgr.entry g i).load⟩ := by
  have horizon : ∀ j, s.eng.inHorizon j = true ↔ b ≤ j ∧ j < b + 96 := by
    intro j
    simp [Engine.inHorizon, hb]
  simp only [State.changeLoads]
  rw [Grid.entry_foldl hg hi figure op _ s.cgr]
  · congr 1
    have each : ∀ j, (shares.map (fun x => (j, x))).filter (fun e => decide (e.2.group = g ∧ e.1 = i))
        = if j = i then (shares.filter (fun x => decide (x.group = g))).map (fun x => (j, x)) else [] := by
      intro j
      by_cases hj : j = i
      · subst hj
        simp only [List.filter_map, if_true]
        congr 2
        funext x
        simp
      · simp [hj, List.filter_map]
    have all : ((s.rangeInHorizon first count).flatMap (fun j => shares.map (fun x => (j, x)))).filter
          (fun e => decide (e.2.group = g ∧ e.1 = i))
        = if first ≤ i ∧ i < first + count then (shares.filter (fun x => decide (x.group = g))).map (fun x => (i, x))
          else [] := by
      rw [List.filter_flatMap]
      simp only [each]
      have nodup : (s.rangeInHorizon first count).Nodup := List.Nodup.filter _ List.nodup_range'
      have mem : i ∈ s.rangeInHorizon first count ↔ first ≤ i ∧ i < first + count := by
        simp only [State.rangeInHorizon, List.mem_filter, List.mem_range'_1, horizon]
        omega
      simp only [← mem]
      generalize s.rangeInHorizon first count = l at nodup
      induction l with
      | nil => simp
      | cons j t ih =>
        have hn := List.nodup_cons.mp nodup
        rw [List.flatMap_cons, ih hn.2]
        by_cases hj : j = i
        · subst hj
          simp [hn.1]
        · simp [hj, Ne.symm hj]
    rw [all]
    split
    · rw [List.foldl_map]
    · rfl
  · intro e he
    obtain ⟨j, hj, he⟩ := List.mem_flatMap.mp he
    obtain ⟨x, hx, rfl⟩ := List.mem_map.mp he
    exact ⟨(horizon j).mp (List.mem_filter.mp hj).2, hs x hx⟩

end Sys2Proof.Machine
end

