-- ==== Sys2Proof/Laws/Requests.lean ====
section
/-! SUPPORT. What each shared operation of a command can do, said once: a command of a running part, a request presented on a
port, the engine's choice, an arrival that may abandon, and the end of a job. -/

namespace Sys2Proof.Machine

/-! ### Commands of a running part -/

theorem State.act_running (s : State) (f : State → State) (h : s.supply = .running) : s.act f = (f s).choose := by
  simp [State.act, h]
theorem State.act_stopped (s : State) (f : State → State) (h : s.supply ≠ .running) : s.act f = s := by
  cases hs : s.supply <;> simp_all [State.act]
theorem State.transfer_running (s : State) (p : Port) (f : State → State) (h : s.supply = .running) :
    s.transfer p f = (f s).choose := by
  simp [State.transfer, h]
/-- Outside running a transfer changes its port's MISO at most. -/
theorem State.transfer_stopped (s : State) (p : Port) (f : State → State) (h : s.supply ≠ .running) :
    s.transfer p f = s ∨ s.transfer p f = s.withPort p { s.port p with miso := .dontCare } := by
  cases hs : s.supply <;> simp_all [State.transfer]

/-! ### Transfers by their first byte (R164) -/

/-- Whatever its bytes, a transfer brings no command, one, or the two events of a READ, all of its own port. -/
theorem transferEvents_cases (p : Port) (bytes : List Byte) : transferEvents p bytes = []
    ∨ (∃ rest, transferEvents p bytes = [.write p rest]) ∨ transferEvents p bytes = [.linkReset p]
    ∨ ∃ n, transferEvents p bytes = [.read p .typeByte, .read p (.finish n)] := by
  unfold transferEvents
  split
  · exact .inl rfl
  · split
    · exact .inr (.inl ⟨_, rfl⟩)
    · exact .inr (.inr (.inr ⟨_, rfl⟩))
    · exact .inr (.inr (.inl rfl))
    · exact .inl rfl
@[simp] theorem State.receive_nil (s : State) (p : Port) : s.receive p [] = s := by
  simp [State.receive, transferEvents]
@[simp] theorem State.receive_pending (s : State) (p : Port) (bytes : List Byte) :
    (s.receive p bytes).pending = s.pending ++ transferEvents p bytes := rfl

/-! ### A request presented (R165, R166) -/

@[simp] theorem State.taken_eng (s : State) (p : Port) (k : Nat) (tag : Byte) (r : Request) : (s.taken p k tag r).eng = s.eng := by
  simp [State.taken]
@[simp] theorem State.taken_supply (s : State) (p : Port) (k : Nat) (tag : Byte) (r : Request) :
    (s.taken p k tag r).supply = s.supply := by
  simp [State.taken]
@[simp] theorem State.answered_eng (s : State) (p : Port) (k : Nat) (tag : Byte) (r : Request) (c : Status) (b : ReplyBody) :
    (s.answered p k tag r c b).eng = s.eng := by
  simp [State.answered]

theorem State.write_full (s : State) (p : Port) (bytes : List Byte) (h : s.freeSlot p = none) :
    s.write p bytes = s.withPort p { (s.port p).newTransfer with lastWriteRefused := true } := by
  simp only [State.freeSlot] at h
  simp [State.write, h]

theorem State.write_accepted (s : State) (p : Port) (bytes : List Byte) (k : Nat) (tag : Byte) (r : Request)
    (h : s.freeSlot p = some k) (hc : checkFrame p bytes = .accepted tag r) :
    s.write p bytes = (s.withPort p ((s.port p).takeSlot k bytes)).accept p k tag r := by
  simp only [State.freeSlot] at h
  simp [State.write, h, hc]

theorem State.write_refused (s : State) (p : Port) (bytes : List Byte) (k : Nat) (kind tag : Byte) (c : Status)
    (h : s.freeSlot p = some k) (hc : checkFrame p bytes = .refused kind tag c) :
    s.write p bytes = (s.withPort p ((s.port p).takeSlot k bytes)).complete p ⟨k, kind, tag, c, .empty⟩ := by
  simp only [State.freeSlot] at h
  simp [State.write, h, hc]

/-- A request that its port permits takes the slot and goes to the block that works its kind. -/
theorem State.present_accepted (s : State) (p : Port) (k : Nat) (tag : Byte) (r : Request)
    (h : s.freeSlot p = some k) (hr : r.presentable p = true) :
    s.present p tag r = (s.taken p k tag r).accept p k tag r :=
  State.write_accepted s p _ k tag r h (checkFrame_of_presentable p tag r hr)

/-- Worked on acceptance: the block's work, and the reply. -/
theorem State.accept_of_acceptedWork (s : State) (p : Port) (k : Nat) (tag : Byte) (r : Request) (a : Answer)
    (h : acceptedWork p r s = some a) :
    s.accept p k tag r = a.1.complete p ⟨k, requestCode r, tag, a.2.1, a.2.2⟩ := by
  simp [State.accept, h]

/-- Worked by the engine: the entry joins its class. -/
theorem State.accept_of_engine (s : State) (p : Port) (k : Nat) (tag : Byte) (r : Request)
    (h : acceptedWork p r s = none) : s.accept p k tag r = s.enqueue (entryOf p k tag r) := by
  simp [State.accept, h, entryOf]

/-! ### The engine's choice (R85) -/

@[simp] theorem State.choose_of_job (s : State) (j : Job) (h : s.eng.job = some j) : s.choose = s := by
  simp [State.choose, h]

theorem State.startNext_of_noWork (s : State) (h : s.eng.hasWork = false) : s.startNext = s := by
  simp only [Engine.hasWork, Bool.or_eq_false_iff, Bool.not_eq_eq_eq_not, Bool.not_false, List.isEmpty_iff] at h
  obtain ⟨⟨⟨⟨⟨⟨ha, hd⟩, hh⟩, hr⟩, hf⟩, hb⟩, hm⟩ := h
  simp [State.startNext, ha, hd, hh, hr, hf, hb, hm]

theorem State.choose_of_noWork (s : State) (h : s.eng.hasWork = false) : s.choose = s := by
  unfold State.choose
  split
  · exact s.startNext_of_noWork h
  · rfl

/-- A start leaves a job in progress, unless no class holds work. -/
theorem State.startNext_job (s : State) (h : s.eng.hasWork = true) : s.startNext.eng.job.isSome = true := by
  unfold State.startNext
  dsimp only
  split
  · rfl
  · rename_i ha
    split
    · rfl
    · split
      · rfl
      · split
        · rfl
        · split <;> first | rfl | simp_all [Engine.hasWork]

/-! ### Arrivals (R84, R89) -/

/-- An arrival leaves the engine as it is, or puts an ADMISSION job below its third abandonment back. -/
theorem Engine.abandoned_cases (e : Engine) : e.abandoned = e
    ∨ ∃ r, e.job = some (.admission r) ∧ r.entry.abandons < Config.immuneAt ∧ e.abandoned = { e with
        job := none
        scratch := none
        admission := if r.orphan then e.admission else { r.entry with abandons := r.entry.abandons + 1 } :: e.admission
        abandonTotal := saturate 65535 (e.abandonTotal + 1) } := by
  unfold Engine.abandoned
  split
  · split
    · exact .inr ⟨_, ‹_›, ‹_›, rfl⟩
    · exact .inl rfl
  · exact .inl rfl

theorem Engine.abandoned_of_held (e : Engine) (h : e.held = true) : e.abandoned = e := by
  obtain h' | ⟨r, hj, hr, -⟩ := e.abandoned_cases
  · exact h'
  · simp only [Engine.held, hj, decide_eq_true_eq] at h
    omega

theorem Engine.abandoned_of_idle (e : Engine) (h : e.job = none) : e.abandoned = e := by
  simp [Engine.abandoned, h]

/-! ### Jobs worked whole -/

@[simp] theorem State.endJob_eng_job (s : State) : s.endJob.eng.job = none := rfl
@[simp] theorem State.endJob_eng_scratch (s : State) : s.endJob.eng.scratch = none := rfl

theorem State.jobEvents_of_idle (s : State) (n : Nat) (h : s.eng.job = none) : s.jobEvents n = s := by
  cases n <;> simp [State.jobEvents, h]

/-- Any job but ROLLOVER and ROLLUP ends with one event. -/
theorem State.finishJob_of_single (s : State) (j : Job) (h : s.eng.job = some j)
    (hr : ∀ st, j ≠ .rollover st) (hu : ∀ st, j ≠ .rollup st) : s.finishJob = s.jobEvent := by
  cases j <;> simp_all [State.finishJob, State.eventsLeft, State.jobEvents]

/-- A row of a request the engine works, presented to a free engine. -/
theorem State.jobRow_free {α : Type} (s : State) (kind : Byte) (make : α → Request) (p : Port) (tag : Byte) (a : α)
    (h : s.supply = .running) (hj : s.eng.job = none) (hw : s.eng.hasWork = false) :
    s.jobRow kind make (.request p tag a) = (s.present p tag (make a)).choose.act State.finishJob := by
  simp [State.jobRow, h, hj, hw, State.transfer_running]

/-- The same row presented to an engine with a job in progress. -/
theorem State.jobRow_busy {α : Type} (s : State) (kind : Byte) (make : α → Request) (p : Port) (tag : Byte) (a : α) (j : Job)
    (h : s.supply = .running) (hj : s.eng.job = some j) :
    s.jobRow kind make (.request p tag a) = (s.present p tag (make a)).choose := by
  simp [State.jobRow, hj, State.transfer_running, h]

end Sys2Proof.Machine
end

