-- ==== Sys2Proof/Tests/Slice0.lean ====
section
/-! SUPPORT. Tests of the model: ill-formed terms that `Instr.wf` refuses; values from the spec's worked cases (each test names
its table; other expected values are worked by hand from the rule named); and, for every statement with hypotheses, a witness
that they are met, its clauses at the edges of their ranges. -/

namespace Sys2Proof.Tests

set_option Elab.async false

open Sys2Proof Sys2Proof.Machine

/-! ### Small states -/

/-- The state after a command. -/
def after (i : Instr) (s : State) : State :=
  match exec i s with
  | .next t => t
  | _ => s

/-- Status and body of the newest completed reply of a port. -/
def answer (p : Port) (s : State) : Option (Status × ReplyBody) := (s.port p).replies.getLast?.map (fun r => (r.status, r.body))

/-- The status a request's row is answered with. -/
def status (p : Port) (r : Request) (s : State) : Option Status := (answer p (after (commandOf p 7#8 r) s)).map (·.1)

def up2 : Product := ⟨.up, 7, 20, 30, 50, 10, 100, true⟩
def sym6 : Product := ⟨.sym, 1, 10, 15, 10, 10, 50, true⟩
def down1 : Product := ⟨.down, 5, 0, 15, 1, 1, 0, true⟩

/-- LOCKED at c = b = 10,400, with products 1, 2 and 6 defined. -/
def lab : State :=
  { State.reset with
    mtu := { State.reset.mtu with
      timeState := .locked, clock := 10400, origin := 10400, goodRun := 3, second := 450, runSeconds := 4996#32 }
    eng := { bookInterval := some 10400 }
    cmt := { products := [(1, down1), (2, up2), (6, sym6)] } }

def labIn (t : TimeState) : State := { lab with mtu := { lab.mtu with timeState := t } }
def fresh : State := State.reset

/-- Zone 3 with the groups, forecasts and loads of TABLE 8(a), margin 26. -/
def zone3 : State :=
  let e (p q : Nat) : GridEntry := { forecast := ⟨p, 0, q, 0⟩ }
  { lab with
    frg := { groups := [(5, ⟨3, 0, 1000⟩), (9, ⟨3, 0, 1000⟩), (12, ⟨3, 0, 1000⟩), (20, ⟨3, 0, 1000⟩)] }
    cgr := { ring := [
      (64 * 53 + 5, { forecast := ⟨412, 0, 930, 0⟩, load := ⟨150, 0, 300, 0⟩ }), (64 * 53 + 9, e 1000 1000),
      (64 * 53 + 12, e 1000 1000), (64 * 53 + 20, e 1000 1000),
      (64 * 54 + 5, e 1000 1000), (64 * 54 + 9, e 1000 1000), (64 * 54 + 12, e 1000 1000), (64 * 54 + 20, e 0 14),
      (64 * 55 + 5, e 1000 1000), (64 * 55 + 9, e 106 45), (64 * 55 + 12, e 1000 1000), (64 * 55 + 20, e 1000 1000),
      (64 * 56 + 5, e 1000 1000), (64 * 56 + 9, e 1000 1000), (64 * 56 + 12, e 340 679),
      (64 * 56 + 20, e 1000 1000)] } }

def hold450 : HoldArgs := ⟨2#8, 3#8, 10421#32, 4#8, 450#16⟩
def held : State := after (.hold (.request .market 9#8 hold450)) zone3
def awarded : State := after (.award (.request .market 10#8 ⟨0#16, 0#8, 300#16⟩)) held

/-- A commitment of product 2 in delivery at b, and one of product 6. -/
def c17 : Commitment := ⟨17, 0#8, .awarded, 2, 3, 10400, 4, 110, [⟨5, 110⟩], some ⟨1250000#48, 40100#32⟩, 0, none⟩
def c23 : Commitment := ⟨23, 0#8, .awarded, 6, 3, 10400, 4, 40, [⟨5, 40⟩], some ⟨0#48, 0#32⟩, 0, none⟩
def delivering : State := { lab with cmt := { lab.cmt with records := [c17, c23] } }

def act2 (target current : Int) (n : Nat) : Activation := ⟨2, target, current, none, n, .grid⟩
def ramping : State :=
  { delivering with acu := { records := [act2 1000 858 6], accounts := [(2, ⟨1252145#48, 40105#32⟩)] } }
def atLimit : State := { delivering with acu := { records := [act2 1000 1000 17999] } }
def ended (cause : EndCause) : State :=
  { delivering with acu := { records := [⟨2, 0, 857, some cause, 18000, .grid⟩] } }

/-- The engine busy with a job that nothing abandons. -/
def busy : State := { lab with eng := { lab.eng with job := some (.rollup .rescan) } }
def withJob (j : Job) (s : State) : State := { s with eng := { s.eng with job := some j } }

/-! ### Ill-formed terms -/

theorem test_wf_refuses_product : (Instr.sustainLimit 8).wf = false ∧ (Instr.sustainLimit 7).wf = true := by decide
theorem test_wf_refuses_group : (Instr.guardEnd 64).wf = false ∧ (Instr.guardEnd 63).wf = true := by decide
theorem test_wf_refuses_report_count : (Instr.telemetry .fleet 0#8 []).wf = false
    ∧ (Instr.telemetry .fleet 0#8 (List.replicate 33 ⟨0#16, 0#16, 0#8, 0#16⟩)).wf = false
    ∧ (Instr.telemetry .fleet 0#8 (List.replicate 32 ⟨0#16, 0#16, 0#8, 0#16⟩)).wf = true := by decide
theorem test_wf_refuses_entry_count : (Instr.forecast (.request .fleet 0#8 ⟨0#8, 0#32, []⟩)).wf = false
    ∧ (Instr.forecast (.request .fleet 0#8 ⟨0#8, 0#32, List.replicate 17 ⟨0#16, 0#16, 0#16, 0#16⟩⟩)).wf = false
    ∧ (Instr.forecast (.request .fleet 0#8 ⟨0#8, 0#32, List.replicate 16 ⟨0#16, 0#16, 0#16, 0#16⟩⟩)).wf = true := by
  decide
theorem test_wf_refuses_curve_length : (Instr.curveSet (.request .fleet 0#8 ⟨0#8, 0#8, List.replicate 15 0#16⟩)).wf = false
    ∧ (Instr.curveSet (.request .fleet 0#8 ⟨0#8, 0#8, List.replicate 16 0#16⟩)).wf = true := by decide
/-- Each row that presents a request refuses a port that TABLE 12(b) does not permit. -/
theorem test_wf_refuses_port : ([.timeSet .grid 0#8 0#32 0#16, .armTrip .market 0#8 0#8 0#8, .configureGrid .fleet 0#8 0#8 0#8,
    .readActivations .fleet 0#8, .readCapture .market 0#8, .clearCapture .market 0#8,
    .telemetry .grid 0#8 [⟨0#16, 0#16, 0#8, 0#16⟩], .configureFleet .grid 0#8 0#16 0#16, .setpointChanges .market 0#8,
    .readSetpoints .grid 0#8 0#16 1#8, .hold (.request .grid 0#8 hold450), .award (.request .fleet 0#8 ⟨0#16, 0#8, 0#16⟩),
    .release (.request .grid 0#8 ⟨0#16, 0#8⟩), .queryHeadroom (.request .grid 0#8 ⟨0#8, 0#8, 0#32, 1#8⟩),
    .configureMarket (.request .grid 0#8 ⟨0#16, 0#8, 0#8, 0#8, 0#16⟩),
    .productSet (.request .grid 0#8 ⟨0#8, 0#8, 0#16, 0#16, 0#8, 0#16, 0#16, 0#16, 0#8⟩),
    .readSettlement (.request .grid 0#8 ()), .productRead (.request .fleet 0#8 0#8),
    .readCommitment (.request .fleet 0#8 0#16), .listCommitments (.request .fleet 0#8 ⟨0#8, 0#16⟩),
    .readDeficits (.request .fleet 0#8 0#8), .readGroup (.request .market 0#8 0#8),
    .activate (.request .market 0#8 ⟨0#8, 0#16⟩), .deactivate (.request .fleet 0#8 0#8),
    .siteSet (.request .grid 0#8 ⟨0#16, 0#8, 0#16, 0#16, 0#16, 0#16⟩), .groupSet (.request .market 0#8 ⟨0#8, 0#8, 0#8, 0#16⟩)] :
    List Instr).all (fun i => !i.wf) = true := by decide
theorem test_wf_accepts : ([.readStatus .market 0#8, .readNotices .grid 0#8, .setAttention .fleet 0#8 0#16 0#8,
    .hold .job, .rollover .whole, .write .grid [], .read .fleet .typeByte, .tickEvent] : List Instr).all Instr.wf = true := by
  decide
theorem test_no_word_spells_a_command : decodeTableWord 16 0 = none := by decide

/-! ### Frames, laid out by hand from TABLE 12(a), 12(b) and R168 -/

theorem test_frame_hold : checkFrame .market [0x09#8, 0x00#8, 0x04#8, 0x11#8,
    0x02#8, 0x03#8, 0xB5#8, 0x28#8, 0x00#8, 0x00#8, 0x04#8, 0xC2#8, 0x01#8] = .accepted 0x11#8 (.hold hold450) := by decide
theorem test_frame_activate : checkFrame .grid [0x03#8, 0x00#8, 0x20#8, 0x07#8, 0x02#8, 0x18#8, 0xFC#8]
    = .accepted 0x07#8 (.activate ⟨2#8, 0xFC18#16⟩) ∧ (0xFC18#16).toInt = -1000 := by decide
theorem test_frame_telemetry : checkFrame .fleet [0x08#8, 0x00#8, 0x33#8, 0x01#8,
    0x01#8, 0xBC#8, 0x04#8, 0x82#8, 0x00#8, 0x01#8, 0x05#8, 0x00#8]
    = .accepted 0x01#8 (.telemetry [⟨1212#16, 130#16, 1#8, 5#16⟩]) := by decide
/-- R166's order: header, length, kind, port, body length. -/
theorem test_frame_refusals :
    ([(Port.market, [0x00#8, 0x00#8, 0x40#8]), (.market, [0x29#8, 0x01#8, 0x41#8, 0x05#8]),
      (.market, [0x00#8, 0x00#8, 0x41#8, 0x05#8, 0x00#8]), (.market, [0x00#8, 0x00#8, 0x09#8, 0x05#8]),
      (.grid, [0x00#8, 0x00#8, 0x08#8, 0x05#8]), (.market, [0x01#8, 0x00#8, 0x41#8, 0x05#8, 0x00#8]),
      (.fleet, [0x01#8, 0x00#8, 0x33#8, 0x05#8, 0x00#8])] : List (Port × List Byte)).map (fun x => checkFrame x.1 x.2)
    = [.refused 0#8 0#8 .malformed, .refused 0x41#8 5#8 .malformed, .refused 0x41#8 5#8 .malformed,
       .refused 0x09#8 5#8 .malformed, .refused 0x08#8 5#8 .notPermitted, .refused 0x41#8 5#8 .malformed,
       .refused 0x33#8 5#8 .malformed] := by decide
/-- TABLE 12(a): the three type bytes, another one, and none. -/
theorem test_transfer_types : [[0xA1#8, 7#8], [0xA2#8, 0#8, 0#8, 0#8], [0xA5#8], [0xA3#8, 7#8], [0x00#8], []].map
      (transferEvents .grid)
    = [[.write .grid [7#8]], [.read .grid .typeByte, .read .grid (.finish 3)], [.linkReset .grid], [], [], []] := by decide
/-- R168 (log 9): at reset READ_ACTIVATIONS has no record, then eight accounts of 10 bytes and two lines with no count. -/
theorem test_activations_body : (bodyBytes (.activations {})).length = 1 + 8 * 10 + 2 * 14 + 2 := by decide +kernel
theorem test_reply_frame_short : replyFrame ⟨0, 0x04#8, 9#8, .short, .short 304 300 3⟩
    = [0x05#8, 0x00#8, 0x04#8, 0x09#8, 0x08#8, 0x30#8, 0x01#8, 0x2C#8, 0x01#8, 0x03#8] := by decide

/-! ### Time (TABLE 1(d), 1(e)) -/

def unset37 : State := { fresh with mtu := { fresh.mtu with runSeconds := 37#32, phase := 6 } }
def pending1 : State := after (.timeSet .market 1#8 10400#32 450#16) unset37
def started1 : State := after .ppsPulse pending1
theorem test_time_set : pending1.mtu.timeState = .acquiring ∧ pending1.mtu.calendar = some ⟨10400, 450, false⟩
    ∧ answer .market pending1 = some (.ok, .empty) := by decide +kernel
theorem test_starting_pulse : started1.mtu = { fresh.mtu with
    timeState := .acquiring, clock := 10400, origin := 10400, second := 450, runSeconds := 38#32, goodRun := 1 } := by
  decide +kernel
/-- The first ROLLOVER starts at once; its whole row gives b = c. -/
theorem test_first_rollover : started1.eng.job = some (.rollover .between)
    ∧ (after (.rollover .whole) started1).eng.bookInterval = some 10400 := by decide +kernel
def acq (phase run sec : Nat) (window : Bool) : State := { lab with mtu := { lab.mtu with
  timeState := .acquiring, phase := phase, goodRun := run, second := sec, window := window, runSeconds := 39#32 } }
theorem test_pulse_in_tick_0 : (after .ppsPulse (acq 0 1 451 true)).mtu = { (acq 0 2 451 false).mtu with phase := 0 } := by
  decide +kernel
theorem test_pulse_in_tick_9_is_the_mark : (after .ppsPulse (acq 9 2 451 true)).mtu =
    { (acq 0 3 452 false).mtu with timeState := .locked, runSeconds := 40#32 } := by decide +kernel
theorem test_boundary : (after .boundaryEvent { lab with mtu := { lab.mtu with phase := 9, second := 899 } }).mtu =
    { lab.mtu with phase := 0, second := 0, clock := 10401, runSeconds := 4997#32 } := by decide +kernel
theorem test_missing_pulse : (after .missingPulse { lab with mtu := { lab.mtu with phase := 1, window := true } }).mtu =
    { lab.mtu with phase := 2, timeState := .holdover, goodRun := 0 } := by decide +kernel
theorem test_stray_pulse : (after .ppsPulse { labIn .holdover with mtu := { (labIn .holdover).mtu with phase := 5, goodRun := 1 } }).mtu
    = { lab.mtu with timeState := .holdover, phase := 5, goodRun := 0, faults := 1 } := by decide +kernel
theorem test_holdover_fails : (after .holdoverToFailed { labIn .holdover with mtu := { (labIn .holdover).mtu with
    phase := 1, window := true, holdover := 299 } }).mtu.timeState = .failed := by decide +kernel
def failed10 : State := { lab with mtu := { lab.mtu with timeState := .failed, clock := 10410 }, eng := { bookInterval := some 10410 } }
theorem test_restart : status .market (.timeSet 10408#32 0#16) failed10 = some .range
    ∧ (after .ppsPulse (after (.timeSet .market 1#8 10413#32 100#16) failed10)).mtu.clock = 10413
    ∧ (after (.rollover .whole) (after .ppsPulse (after (.timeSet .market 1#8 10413#32 100#16) failed10))).eng.bookInterval
      = some 10413 := by decide +kernel

/-! ### Products, registry, telemetry, limits -/

theorem test_product_set : [(⟨2#8, 1#8, 7#16, 20#16, 30#8, 50#16, 60#16, 100#16, 1#8⟩ : ProductArgs),
      ⟨2#8, 1#8, 7#16, 20#16, 30#8, 50#16, 10#16, 100#16, 1#8⟩].map (fun a => status .market (.productSet a) fresh)
    = [some .range, some .ok] ∧ status .market (.productSet ⟨2#8, 1#8, 7#16, 20#16, 45#8, 50#16, 10#16, 100#16, 1#8⟩) held
      = some .inUse := by decide +kernel
theorem test_arm_trip : status .grid (.armTrip 0#8 2#8) lab = some .ok ∧ status .grid (.armTrip 1#8 2#8) lab = some .range := by
  decide +kernel
theorem test_site_set : status .fleet (.siteSet ⟨1207#16, 70#8, 135#16, 50#16, 50#16, 200#16⟩) fresh = some .range
    ∧ (after (.siteSet (.request .fleet 1#8 ⟨1207#16, 5#8, 135#16, 1500#16, 50#16, 200#16⟩)) fresh).frg.site 1207
      = ⟨some 5, 135, 1000, 50, 200⟩ := by decide +kernel

def dischargeCurve : List Nat := [0, 96, 160, 192, 208, 216, 224, 230, 230, 230, 230, 240, 248, 256, 256, 256]
def chargeCurve : List Nat := [256, 256, 256, 256, 256, 248, 240, 232, 224, 216, 200, 180, 150, 110, 60, 0]
/-- TABLE 3(d): the last value, 300, is stored as 256. -/
theorem test_curve_set : (after (.curveSet (.request .fleet 1#8 ⟨1#8, 0#8,
    (dischargeCurve.take 15 ++ [300]).map (BitVec.ofNat 16)⟩)) fresh).frg.curve 1 false = dischargeCurve := by decide +kernel

/-- TABLE 4(b), 4(c). -/
theorem test_telemetry : let t := after (.telemetry .fleet 1#8 [⟨1212#16, 130#16, 1#8, 5#16⟩, ⟨5000#16, 400#16, 1#8, 10#16⟩,
      ⟨1212#16, 1100#16, 1#8, 6#16⟩, ⟨1301#16, 500#16, 0#8, 0#16⟩]) lab
    t.tiu.raw = [(1212, some ⟨1000, true, 6, 4996#32⟩), (1301, some ⟨500, false, 0, 4996#32⟩)]
    ∧ answer .fleet t = some (.ok, .telemetry 3 1) := by decide +kernel

/-- TABLE 4(d) to 4(f). -/
def snap : RollupSnapshot where
  runSeconds := 5000#32
  staleLimit := 30
  raw := [(1207, some ⟨655, true, 40, 4990#32⟩), (1208, some ⟨1000, true, 28, 4975#32⟩),
    (1212, some ⟨1000, true, 6, 4960#32⟩), (1250, some ⟨300, true, -12, 4988#32⟩), (1300, some ⟨700, false, 0, 4998#32⟩),
    (1400, some ⟨600, true, 30, 4999#32⟩)]
  registry := {
    sites := [(1207, ⟨some 5, 135, 50, 50, 200⟩), (1208, ⟨some 5, 100, 30, 30, 150⟩), (1212, ⟨some 5, 135, 50, 50, 200⟩),
      (1250, ⟨some 5, 135, 50, 50, 200⟩), (1300, ⟨some 5, 135, 50, 50, 200⟩), (1302, ⟨some 5, 135, 50, 50, 200⟩),
      (1400, ⟨none, 135, 50, 50, 200⟩)]
    groups := [(5, ⟨3, 1, 950⟩)]
    curves := [(2, dischargeCurve), (3, chargeCurve)] }
  previousFresh := [1207, 1208, 1212]
theorem test_site_figures : [1207, 1208, 1250, 1212, 1300, 1302, 1400].map snap.siteResult =
    [⟨true, 44, 39, 61, 39, 40, some 5⟩, ⟨true, 30, 0, 85, 0, 28, some 5⟩, ⟨true, 40, 50, 13, 87, -12, some 5⟩,
     ⟨false, 0, 0, 0, 0, 0, some 5⟩, ⟨false, 0, 0, 0, 0, 0, some 5⟩, ⟨false, 0, 0, 0, 0, 0, some 5⟩,
     ⟨false, 0, 0, 0, 0, 0, none⟩] := by decide +kernel
/-- TABLE 4(g). -/
theorem test_group_sums : groupSums ([1207, 1208, 1212, 1250].map (fun i => (i, snap.siteResult i))) 5
    = ⟨114, 89, 159, 126, 56, 3⟩ := by decide +kernel
/-- TABLE 4(h) and note 1 of 4.8: a TELEMETRY between a rollup's start and its snapshot sets the flag again and is in the
snapshot; one taken after it sets the flag and is not. Either way a further rollup follows. -/
theorem test_telemetry_around_a_snapshot :
    let report : List Report := [⟨1208#16, 500#16, 1#8, 5#16⟩]
    let started := after (.configureFleet .fleet 1#8 20#16 5#16) lab
    let before := after (.telemetry .fleet 2#8 report) started
    let later := after (.telemetry .fleet 2#8 report) (after (.rollup .event) started)
    let stored (s : State) : Option (List Nat) := match s.eng.job with
      | some (.rollup (.figures n)) => some (n.raw.map (·.1))
      | _ => none
    started.eng.job = some (.rollup .snapshot) ∧ started.eng.rollup.flag = false
    ∧ before.eng.rollup = ⟨true, 0⟩ ∧ stored (after (.rollup .event) before) = some [1208]
    ∧ later.eng.rollup = ⟨true, 0⟩ ∧ stored later = some []
    ∧ (after (.rollup .event) (withJob (.rollup .trigger) before)).eng.job = some (.rollup .snapshot) := by decide +kernel
/-- TABLE 5(c). -/
theorem test_limits : (zone3.limits 5 10421).pUp = 370 ∧ (zone3.limits 5 10421).eUp = 835
    ∧ (zone3.spares 5 10421).pUp = 220 ∧ (zone3.spares 5 10421).eUp = 535 := by decide +kernel

/-! ### Admission and award (chapter 8) -/

/-- TABLE 8(a), and the QUERY_HEADROOM of 8.8. -/
theorem test_query_headroom : answer .market (after (.queryHeadroom (.request .market 9#8 ⟨2#8, 3#8, 10421#32, 4#8⟩)) zone3)
    = some (.ok, .headroom 10400 10400 .open 4 3 [⟨12, 305, 10424⟩, ⟨5, 220, 10421⟩, ⟨9, 80, 10423⟩] 605 600) := by
  decide +kernel
/-- TABLE 8(b). -/
theorem test_hold : answer .market held = some (.ok, .shares 0 0#8 450 [⟨5, 164⟩, ⟨9, 59⟩, ⟨12, 227⟩])
    ∧ ((held.cgr.entry 5 10421).load.pUp, (held.cgr.entry 5 10421).load.eUp) = (314, 382) := by decide +kernel
/-- TABLE 8(c). -/
theorem test_award : answer .market awarded = some (.ok, .shares 0 0#8 300 [⟨5, 110⟩, ⟨9, 39⟩, ⟨12, 151⟩])
    ∧ ((awarded.cgr.entry 5 10421).load.pUp, (awarded.cgr.entry 5 10421).load.eUp) = (260, 355) := by decide +kernel
/-- TABLE 8(d). -/
theorem test_further_holds : [(⟨2#8, 3#8, 10421#32, 4#8, 305#16⟩ : HoldArgs), ⟨2#8, 3#8, 10421#32, 4#8, 350#16⟩,
      ⟨2#8, 3#8, 10421#32, 4#8, 300#16⟩, ⟨2#8, 3#8, 10404#32, 4#8, 300#16⟩, ⟨2#8, 3#8, 10493#32, 4#8, 300#16⟩].map
      (fun a => answer .market (after (.hold (.request .market 11#8 a)) awarded))
    = [some (.range, .empty), some (.short, .short 304 300 3), some (.ok, .shares 1 0#8 300 [⟨5, 109⟩, ⟨9, 39⟩, ⟨12, 152⟩]),
       some (.gateClosed, .empty), some (.range, .empty)] := by decide +kernel
/-- 8.9: awards of 305 and 40 are RANGE, and an award of 0 restores the loads. -/
theorem test_award_refusals : status .market (.award ⟨0#16, 0#8, 305#16⟩) held = some .range
    ∧ status .market (.award ⟨0#16, 0#8, 40#16⟩) held = some .range
    ∧ (after (.award (.request .market 1#8 ⟨0#16, 0#8, 0#16⟩)) held).cgr = zone3.cgr
    ∧ (after (.award (.request .market 1#8 ⟨0#16, 0#8, 0#16⟩)) held).cmt.issue 0 = 1#8 := by decide +kernel
theorem test_release : (after (.release (.request .market 1#8 ⟨0#16, 0#8⟩)) awarded).cmt.records = []
    ∧ (after (.release (.request .market 1#8 ⟨0#16, 0#8⟩)) awarded).cgr = zone3.cgr := by decide +kernel

/-! ### Activation and dispatch (chapters 9, 10) -/

/-- TABLE 9(e), tick event 7. -/
theorem test_ramp : (after .tickEvent ramping).acu.records = [act2 1000 1000 7]
    ∧ accountOf (after .tickEvent ramping).acu.accounts 2 = ⟨1253003#48, 40106#32⟩ := by decide +kernel
/-- TABLE 9(f). -/
theorem test_sustain_limit : (after (.sustainLimit 2) atLimit).acu.records = [⟨2, 0, 857, some .sustain, 18000, .grid⟩]
    ∧ (after (.sustainLimit 2) atLimit).count .grid .sustainLimit = 1
    ∧ status .grid (.activate ⟨2#8, 1000#16⟩) (ended .sustain) = some .wrongState
    ∧ status .grid (.deactivate 2#8) (ended .sustain) = some .ok := by decide +kernel
/-- A DOWN product takes the magnitude (R131): the last step down of 200 stops at the target. -/
theorem test_down_fraction : Direction.down.clamp 1500 = -1000 ∧ moveToward (-900) (-1000) 200 = -1000
    ∧ moveToward 100 (-500) 200 = -100 := by decide
/-- TABLE 10(b). -/
theorem test_group_target : delivering.computedTarget [(2, 700), (6, -175)] 5 = 70
    ∧ delivering.contributors [(2, 700), (6, -175)] 5 = [2, 6]
    ∧ [70000, -7500, 7499].map roundThousand = [70, -8, 7] := by decide +kernel
/-- TABLE 10(c) and its note 3, and the split of 40 in 10.9. -/
theorem test_split : splitTarget 70 [(1207, 44), (1208, 30), (1250, 40)] = [(1207, 27), (1208, 18), (1250, 25)]
    ∧ splitTarget 130 [(1207, 44), (1208, 30), (1250, 40)] = [(1207, 44), (1208, 30), (1250, 40)]
    ∧ splitTarget 40 [(1207, 44), (1208, 30), (1250, 40)] = [(1207, 15), (1208, 11), (1250, 14)] := by decide +kernel
theorem test_guard : reverses 40 (-40) 3 = true ∧ reverses 40 (-40) 0 = false ∧ reverses 0 (-40) 3 = false := by decide
def guarding (n : Nat) : State := { lab with dsp := { groups := [(5, { guard := true, remaining := n, computed := -40 })] } }
theorem test_guard_end : ((after (.guardEnd 5) (guarding 1)).dsp.group 5).guard = false
    ∧ ((after .tickEvent (guarding 2)).dsp.group 5).guard = true := by decide +kernel

/-! ### Verification and settlement (chapter 11) -/

/-- 11.8: the threshold at P = 70 and tolerance 50 is 66,500. -/
theorem test_shortfall : [56, 67, 66, 0, -5].map (fun m => isShort 70 m 50) = [true, false, true, true, true] := by decide
/-- TABLE 11(c). -/
theorem test_settlement_figures : settlementFigures 300 ⟨1250000#48, 40100#32⟩ ⟨7250000#48, 46106#32⟩ = ⟨50, 6006#32⟩
    ∧ settlementFigures 120 ⟨281474976000000#48, 4294967000#32⟩ ⟨500000#48, 1000#32⟩ = ⟨4, 1296#32⟩ := by decide

/-! ### A port through a busy moment (TABLE 12(f)) -/

def port0 : State := { busy with grid := { threshold := 5 } }
def port3 : State := after (.write .grid (requestFrame 9#8 (.hold hold450)))
  (after (.readCommitment (.request .grid 8#8 0#16)) (after (.activate (.request .grid 7#8 ⟨2#8, 1000#16⟩)) port0))
def port4 : State := after (.readCapture .grid 10#8) port3
def port5 : State := after (.clearCapture .grid 11#8) port4
theorem test_port_refuses_hold : port3.grid.replies.map (fun r => (r.tag, r.status)) = [(9#8, .notPermitted)]
    ∧ port3.attn .grid = true ∧ port3.eng.activation.length = 1 ∧ port3.eng.book.length = 1 := by decide +kernel
theorem test_port_discards_fifth : port5.grid.lastWriteRefused = true ∧ port5.grid.replies = port4.grid.replies
    ∧ (port4.grid.replies.map (·.tag)) = [9#8, 10#8] := by decide +kernel
theorem test_port_read : ((after (.read .grid (.whole 6)) port5).grid.replies.map (·.tag)) = [10#8]
    ∧ ((after (.read .grid (.whole 5)) port5).grid.replies.map (·.tag)) = [9#8, 10#8]
    ∧ (after (.read .grid (.whole 6)) port5).grid.miso = .bytes [5#8, 0#8, 0#8, 0x04#8, 9#8, 2#8] := by decide +kernel
theorem test_port_link_reset : (after (.linkReset .grid) port5).eng.activation = []
    ∧ (after (.linkReset .grid) port5).eng.book = [] ∧ (after (.linkReset .grid) port5).attn .grid = false := by
  decide +kernel

/-! ### The step -/

theorem test_step : step { lab with pending := [.tickEvent, .ppsPulse] } = exec .tickEvent { lab with pending := [.ppsPulse] } :=
  rfl
theorem test_step_idles : step State.reset = .next State.reset := rfl
theorem test_fetch_word : State.reset.withFetchWord 8 0 = State.reset := by decide +kernel

/-! ### Witnesses: the hypotheses of each statement are met, its clauses at the edges of their ranges -/

/-- Whether a command answers a next state. -/
def runs (i : Instr) (s : State) : Bool :=
  match exec i s with
  | .next _ => true
  | _ => false
theorem exec_eq_after {i : Instr} {s : State} (h : runs i s = true) : exec i s = .next (after i s) := by
  unfold runs at h
  unfold after
  split at h <;> simp_all
theorem step_eq_after {i : Instr} {s : State} (h : runs i { s with pending := [] } = true) :
    step { s with pending := [i] } = .next (after i { s with pending := [] }) := exec_eq_after h

def heldReset : State := after (.deviceReset .pin) lab
def mtuAt (m : Mtu → Mtu) : State := { lab with mtu := m lab.mtu }

theorem witness_StepTakesFrontCommand : State.reset.pending = [] := rfl
theorem witness_ReleaseGivesResetValues : heldReset.supply = .held ∧ lab.supply ≠ .held
    ∧ (after .resetRelease heldReset).cause = .pin := by decide +kernel
theorem witness_ResetBeginsAndPowerFails : lab.supply = .running ∧ heldReset.supply ≠ .running
    ∧ (after .powerFail lab).supply = .off := by decide +kernel
theorem witness_NothingIsWorkedInReset : heldReset.supply ≠ .running ∧ Instr.ofReset .tickEvent = false
    ∧ exec .tickEvent heldReset = .next heldReset := ⟨by decide +kernel, rfl, rfl⟩
theorem witness_TickEventAdvancesPhaseAndCounts : (mtuAt (fun m => { m with phase := 8 })).supply = .running
    ∧ (mtuAt (fun m => { m with phase := 8 })).mtu.judging = true
    ∧ (after .tickEvent (mtuAt (fun m => { m with phase := 8 }))).mtu.window = true
    ∧ ((guarding 1).dsp.group 5).guard = true ∧ ((guarding 1).dsp.group 5).remaining ≤ 1
    ∧ (guarding 1).acu.records = [] := by decide +kernel
/-- Tick 8 while pulses are judged and while they are not, ticks 7 and 0, and tick 1 with the window closed. -/
theorem witness_tick_keeps_time_unit :
    let at_ (t : TimeState) (n : Nat) (w : Bool) := mtuAt (fun m => { m with timeState := t, phase := n, window := w })
    [at_ .locked 8 false, at_ .failed 8 false, at_ .locked 7 false, at_ .locked 0 true, at_ .holdover 1 false].map
      (fun s => ((after .tickEvent s).mtu.phase, (after .tickEvent s).mtu.window, (after .tickEvent s).mtu.timeState))
      = [(9, true, .locked), (9, false, .failed), (8, false, .locked), (1, true, .locked), (2, false, .holdover)] := by
  decide +kernel
/-- Seconds 898 and 899 of 900, c at its last value, and period counts 3 and 4 of 5. -/
theorem witness_SecondMarkCountsSecondsAndBoundaries :
    let at9 (sec c n : Nat) : State := { mtuAt (fun m => { m with phase := 9, second := sec, clock := c }) with
      tiu := { periodCount := n } }
    let seen (s : State) := ((after .secondMark s).mtu.second, (after .secondMark s).mtu.clock, (after .secondMark s).tiu.periodCount)
    [seen (at9 898 10400 3), seen (at9 899 10400 4), seen (at9 899 4294967199 4), seen (at9 899 4294967198 0)]
      = [(899, 10400, 4), (0, 10401, 0), (0, 4294967199, 0), (0, 4294967199, 1)] := by decide +kernel
theorem witness_MissingPulseIsJudged :
    let open_ (t : TimeState) (n : Nat) := mtuAt (fun m => { m with timeState := t, phase := 1, window := true, holdover := n })
    [open_ .acquiring 0, open_ .locked 7, open_ .holdover 298, open_ .holdover 299].map
      (fun s => (s.supply, (after .missingPulse s).mtu.timeState, (after .missingPulse s).mtu.holdover))
      = [(.running, .acquiring, 0), (.running, .holdover, 0), (.running, .holdover, 299), (.running, .failed, 300)] := by
  decide +kernel
/-- A restart at, one above and one below c, and a first start. -/
theorem witness_StartingPulseStartsCalendar :
    let pend (n : Nat) (r : Bool) := mtuAt (fun m => { m with timeState := .acquiring, calendar := some ⟨n, 5, r⟩ })
    [pend 10400 true, pend 10401 true, pend 10399 true, pend 3 false, labIn .failed].map (fun s =>
      ((after .ppsPulse s).mtu.timeState, (after .ppsPulse s).mtu.clock)) =
      [(.acquiring, 10400), (.acquiring, 10401), (.failed, 10400), (.acquiring, 3), (.failed, 10400)] := by decide +kernel
theorem witness_PulseIsGoodOrStray :
    let judged (t : TimeState) (phase run : Nat) (w : Bool) := mtuAt (fun m => { m with
      timeState := t, phase := phase, goodRun := run, window := w })
    (after .ppsPulse { judged .locked 9 3 true with dsp := (guarding 1).dsp, tiu := { periodCount := 4 } }).tiu.periodCount = 0
    ∧ ((after .ppsPulse { judged .locked 9 3 true with dsp := (guarding 1).dsp }).dsp.group 5).guard = false
    ∧ [judged .acquiring 0 1 true, judged .holdover 9 2 true, judged .locked 9 3 true, judged .acquiring 5 2 false].map
      (fun s => ((after .ppsPulse s).mtu.timeState, (after .ppsPulse s).mtu.goodRun, (after .ppsPulse s).mtu.second)) =
      [(.acquiring, 2, 450), (.locked, 3, 451), (.locked, 3, 451), (.acquiring, 0, 450)] := by decide +kernel
/-- Second 899 and 900 of 900, the last interval and one above, and N one below c in FAILED. -/
theorem witness_TimeSetChecksAndRecords : fresh.supply = .running ∧ fresh.freeSlot .market = some 0
    ∧ [status .market (.timeSet 0#32 899#16) fresh, status .market (.timeSet 0#32 900#16) fresh,
       status .market (.timeSet 4294967199#32 0#16) fresh, status .market (.timeSet 4294967200#32 0#16) fresh,
       status .market (.timeSet 10410#32 0#16) failed10, status .market (.timeSet 10409#32 0#16) failed10,
       status .market (.timeSet 0#32 0#16) lab]
      = [some .ok, some .range, some .ok, some .range, some .ok, some .range, some .wrongState] := by decide +kernel

def lineState (x : LineState) (q : Nat) : State := { lab with acu := { uft := x, qualification := q } }
theorem witness_TripLineEdges : (lineState { asserted := true } 2).acu.uft.asserted = true
    ∧ (after (.tripLineAssert .uft) (lineState {} 1)).acu.uft.latched = false
    ∧ (after (.tripLineAssert .uft) (lineState {} 0)).acu.uft = { asserted := true, latched := true, unarmed := 1 }
    ∧ (after (.tripLineAssert .uft) (lineState { latched := true } 0)).acu.uft = { asserted := true, latched := true }
    ∧ (after (.tripQualified .uft) (lineState { armed := some 2 } 0)).eng.job = some (.trip ⟨.uft, 2, 1000⟩)
    ∧ (after (.tripLineDeassert .uft) (lineState { asserted := true, count := 1, latched := true } 2)).acu.uft = {} := by
  decide +kernel
/-- Counts 0 and 1 of 2 qualification ticks, armed and unarmed, with and without a queued event of the line. -/
theorem witness_TripLineQualifiesAtTick :
    let waiting (n : Nat) (p : Option Nat) (q : List ActEntry) : State :=
      { lineState { asserted := true, count := n, armed := p } 2 with
        eng := { busy.eng with activation := q } }
    [waiting 0 none [], waiting 1 none [], waiting 1 (some 2) [], waiting 1 (some 2) [.trip ⟨.uft, 2, 1000⟩]].map
      (fun s => ((after .tickEvent s).acu.uft.count, (after .tickEvent s).acu.uft.unarmed,
        (after .tickEvent s).eng.activation.length, (after .tickEvent s).eng.activationMerges)) =
      [(1, 0, 0, 0), (0, 1, 0, 0), (0, 0, 1, 0), (0, 0, 1, 1)] := by decide +kernel
theorem witness_TickStepsEveryActivation : ramping.supply = .running ∧ ramping.ActivationInv
    ∧ ramping.acu.record 2 = some (act2 1000 858 6) ∧ ramping.acu.record 1 = none := by
  have up (f : Int) (h : 0 ≤ f ∧ f ≤ 1000) : (ramping.product 2).direction.allows f := h
  refine ⟨rfl, ⟨by decide, by decide, ?_, ?_, by decide, ?_⟩, by decide, by decide⟩
  · intro r h
    obtain rfl := List.mem_singleton.mp h
    exact up _ (by decide)
  · intro r h
    obtain rfl := List.mem_singleton.mp h
    exact up _ (by decide)
  · intro e h
    rcases h with h | h
    · cases (show ActEntry.trip e ∈ [] from h)
    · cases (show none = some (Job.trip e) from h)
theorem witness_SustainLimitEndsActivation : atLimit.supply = .running ∧ atLimit.acu.record 2 = some (act2 1000 1000 17999)
    ∧ (atLimit.product 2).sustain * 600 = 18000
    ∧ (after (.sustainLimit 2) { atLimit with acu := { records := [act2 1000 1000 17998] } }).acu.records
      = [act2 1000 1000 17998] := by decide +kernel
/-- Products 7 and 8, undefined and without an award; records absent, ENDING by each cause, and at the target. -/
theorem witness_ActivateChecksAndRetargets : delivering.ready = true ∧ delivering.freeSlot .grid = some 0
    ∧ [(8#8, delivering), (7#8, delivering), (1#8, delivering), (2#8, delivering), (2#8, ended .intervalEnd),
       (2#8, ended .deactivate), (2#8, atLimit)].map (fun x => status .grid (.activate ⟨x.1, 1000#16⟩) x.2)
      = [some .range, some .disabled, some .nothingAwarded, some .ok, some .wrongState, some .ok, some .ok]
    ∧ [(2#8, delivering), (2#8, atLimit), (2#8, ended .sustain)].map (fun x => status .grid (.activate ⟨x.1, 0#16⟩) x.2)
      = [some .unknown, some .ok, some .ok]
    ∧ [(8#8, delivering), (7#8, delivering), (2#8, atLimit), (2#8, ended .sustain)].map (fun x => status .grid (.deactivate x.1) x.2)
      = [some .range, some .unknown, some .ok, some .ok] := by decide +kernel
theorem witness_TripJobWorksLikeActivate :
    let trip (p : Nat) (s : State) := after .tripJob (withJob (.trip ⟨.uft, p, 1000⟩) s)
    [trip 2 delivering, trip 1 delivering, trip 7 delivering, trip 6 lab, trip 2 (ended .sustain), trip 2 (ended .deactivate)].map
      (fun s => s.acu.uft.last.map (·.outcome)) =
      [some .ok, some .range, some .range, some .nothingAwarded, some .wrongState, some .ok]
    ∧ (trip 2 delivering).acu.records = [⟨2, 1000, 0, none, 0, .uft⟩] := by decide +kernel
theorem witness_GridSettingsAreTaken : lab.supply = .running ∧ lab.freeSlot .grid = some 0
    ∧ [(0#8, 255#8), (0#8, 8#8), (0#8, 7#8), (0#8, 2#8), (1#8, 1#8), (1#8, 6#8), (1#8, 2#8), (2#8, 2#8)].map
      (fun x => status .grid (.armTrip x.1 x.2) lab) =
      [some .ok, some .range, some .range, some .ok, some .ok, some .ok, some .range, some .range]
    ∧ answer .grid (after (.configureGrid .grid 1#8 51#8 20#8) lab) = some (.ok, .gridSettings 50 20) := by decide +kernel

def full : State := { lab with market := { slots := [(0, some []), (1, some []), (2, some []), (3, some [])] } }
def oneLeft : State := { lab with market := { slots := [(0, some []), (1, some []), (2, some [])] } }
theorem witness_WriteTakesSlotOrIsRefused : (lab.receive .market [0xA4#8]) = lab
    ∧ (lab.receive .market [0xA1#8]).pending = [.write .market []] ∧ ([0, 1, 2, 3].all (fun k => (Table.get none full.market.slots k).isSome)) = true
    ∧ (after (.write .market []) full).market.lastWriteRefused = true ∧ oneLeft.freeSlot .market = some 3
    ∧ answer .market (after (.write .market [0#8, 0#8, 0x41#8]) oneLeft) = some (.malformed, .empty)
    ∧ answer .market (after (.write .market [0#8, 0#8, 0x41#8, 1#8]) oneLeft) = some (.ok, .notices []) := by decide +kernel
theorem witness_RowOnForeignPortIsNotPermitted : lab.supply = .running ∧ lab.freeSlot .grid = some 0
    ∧ (Request.hold hold450).wf = true ∧ permitted .grid (.hold hold450) = false
    ∧ status .grid (.hold hold450) lab = some .notPermitted := by decide +kernel
theorem witness_RequestWaitsAtTailOfItsClass : busy.supply = .running ∧ busy.eng.held = true ∧ busy.eng.job ≠ none
    ∧ busy.freeSlot .market = some 0 ∧ (Request.hold hold450).presentable .market = true
    ∧ (withJob (.admission ⟨⟨.market, 0, 0#8, .hold hold450, 3⟩, false⟩) lab).eng.held = true
    ∧ (withJob (.admission ⟨⟨.market, 0, 0#8, .hold hold450, 2⟩, false⟩) lab).eng.held = false
    ∧ (let s := after (.siteSet (.request .fleet 0#8 ⟨0#16, 0#8, 0#16, 0#16, 0#16, 0#16⟩))
          (withJob (.admission ⟨⟨.market, 0, 0#8, .hold hold450, 0⟩, false⟩) lab)
       s.eng.fleet.length = 1 ∧ s.eng.classInProgress = 7 ∧ s.eng.abandonTotal = 0)
    ∧ (after (.hold (.request .market 0#8 hold450)) busy).eng.admission.length = 1 := by decide +kernel
theorem witness_ReadReturnsOldestReply : port5.supply = .running ∧ port5.grid.replies ≠ [] ∧ lab.market.replies = []
    ∧ (after (.read .grid .typeByte) port5).grid.reading ≠ none
    ∧ (after (.read .grid (.finish 6)) (after (.read .grid .typeByte) port5)).grid.replies.length = 1
    ∧ (after (.read .market (.whole 3)) lab).market.miso = .bytes [2#8, 0#8, 0#8] := by decide +kernel
theorem witness_LinkResetClearsOnePort : port5.supply = .running ∧ (after (.linkReset .market) port5).grid = port5.grid
    ∧ (let r (o : Bool) : Running := ⟨⟨.market, 0, 5#8, .productRead 2#8, 0⟩, o⟩
       (after (.linkReset .market) (withJob (.book (r false)) lab)).eng.job = some (.book (r true))
       ∧ (after (.linkReset .grid) (withJob (.book (r false)) lab)).eng.job = some (.book (r false))
       ∧ (after (.linkReset .grid) (withJob (.trip ⟨.uft, 2, 1000⟩) lab)).eng.job = some (.trip ⟨.uft, 2, 1000⟩)) := by
  decide +kernel
theorem witness_JobFormEndsJobInProgress :
    let r (o : Bool) : Running := ⟨⟨.market, 0, 5#8, .productRead 2#8, 0⟩, o⟩
    jobOf (.productRead 2#8) = some (.productRead .job)
    ∧ (after (.productRead .job) (withJob (.book (r false)) lab)).market.replies.length = 1
    ∧ (after (.productRead .job) (withJob (.book (r true)) lab)).market.replies = []
    ∧ after (.release .job) (withJob (.book (r false)) lab) = withJob (.book (r false)) lab
    ∧ after (.productRead .job) lab = lab := by decide +kernel
theorem witness_PortRequestsAndAttention :
    let quiet (n : Nat) : State := { lab with market := {}, fleet := { threshold := n } }
    lab.supply = .running ∧ lab.freeSlot .fleet = some 0 ∧ (quiet 0).attn .fleet = false
    ∧ [0, 2, 3].map (fun n => ((quiet n).raise .staleSites).attn .fleet) = [true, true, false]
    ∧ ((quiet 0).raise .staleSites).attn .market = false := by decide +kernel
theorem witness_ReadingsAreFormedAtAcceptance : lab.supply = .running ∧ lab.freeSlot .grid = some 0
    ∧ [(4095#16, 64#8), (4096#16, 1#8), (0#16, 0#8), (0#16, 65#8)].map (fun x => status .fleet (.readSetpoints x.1 x.2) lab)
      = [some .ok, some .range, some .range, some .range] := by decide +kernel
theorem witness_TelemetryAndFleetSettingsAreStored : lab.supply = .running ∧ lab.freeSlot .fleet = some 0
    ∧ answer .fleet (after (.configureFleet .fleet 1#8 0#16 61#16) lab) = some (.ok, .fleetSettings 1 60)
    ∧ (after (.configureFleet .fleet 1#8 30#16 5#16) lab).eng = lab.eng := by decide +kernel
theorem witness_ConfigureMarketChecksAndClamps : lab.ready = true ∧ lab.freeSlot .market = some 0
    ∧ [(⟨900#16, 4#8, 1#8, 65#8, 9#16⟩ : MarketArgs), ⟨901#16, 4#8, 1#8, 26#8, 300#16⟩, ⟨900#16, 0#8, 1#8, 26#8, 300#16⟩,
       ⟨900#16, 9#8, 1#8, 26#8, 300#16⟩, ⟨900#16, 4#8, 4#8, 26#8, 300#16⟩, ⟨900#16, 5#8, 1#8, 26#8, 300#16⟩].map
      (fun a => status .market (.configureMarket a) lab) =
      [some .ok, some .range, some .range, some .range, some .range, some .wrongState]
    ∧ answer .market (after (.configureMarket (.request .market 1#8 ⟨3600#16, 8#8, 3#8, 65#8, 3601#16⟩)) fresh)
      = some (.ok, .settings ⟨3600, 8, 3, 64, 3600⟩) := by decide +kernel
theorem witness_ProductSetReplacesUnreferencedRecord : lab.ready = true ∧ lab.freeSlot .market = some 0
    ∧ [(⟨7#8, 3#8, 3000#16, 600#16, 240#8, 1#16, 1#16, 500#16, 0#8⟩ : ProductArgs),
       ⟨8#8, 3#8, 3000#16, 600#16, 240#8, 1#16, 1#16, 500#16, 0#8⟩, ⟨7#8, 4#8, 1#16, 0#16, 1#8, 1#16, 1#16, 0#16, 0#8⟩,
       ⟨7#8, 1#8, 3001#16, 0#16, 1#8, 1#16, 1#16, 0#16, 0#8⟩, ⟨7#8, 1#8, 1#16, 0#16, 1#8, 1#16, 2#16, 0#16, 0#8⟩,
       ⟨7#8, 1#8, 1#16, 0#16, 1#8, 1#16, 1#16, 0#16, 2#8⟩].map (fun a => status .market (.productSet a) lab)
      = [some .ok, some .range, some .range, some .range, some .range, some .range] := by decide +kernel
theorem witness_BookReadingsReport : lab.ready = true ∧ lab.freeSlot .grid = some 0 ∧ delivering.cmt.record 17 = some c17
    ∧ [Request.productRead 7#8, .productRead 8#8, .readCommitment 17#16, .readCommitment 511#16, .readCommitment 512#16,
       .listCommitments ⟨3#8, 511#16⟩, .listCommitments ⟨4#8, 0#16⟩, .listCommitments ⟨0#8, 512#16⟩, .readDeficits 63#8,
       .readDeficits 64#8, .readGroup 63#8, .readGroup 64#8].map (fun r => status .grid r delivering)
      = [some .ok, some .range, some .ok, some .unknown, some .range, some .ok, some .range, some .range, some .ok,
         some .range, some .ok, some .range] := by decide +kernel
/-- Every refusal of HOLD, at the first value past each edge. -/
theorem witness_HoldRefusesInOrder : zone3.ready = true ∧ zone3.freeSlot .market = some 0
    ∧ [(⟨8#8, 3#8, 10421#32, 4#8, 450#16⟩ : HoldArgs), ⟨7#8, 3#8, 10421#32, 4#8, 450#16⟩, ⟨2#8, 3#8, 10421#32, 0#8, 450#16⟩,
       ⟨2#8, 3#8, 10421#32, 17#8, 450#16⟩, ⟨2#8, 16#8, 10421#32, 4#8, 450#16⟩, ⟨2#8, 3#8, 10421#32, 4#8, 40#16⟩,
       ⟨2#8, 3#8, 10404#32, 4#8, 450#16⟩, ⟨2#8, 3#8, 10493#32, 4#8, 450#16⟩, ⟨2#8, 3#8, 10492#32, 4#8, 450#16⟩,
       ⟨2#8, 3#8, 10421#32, 4#8, 610#16⟩].map (fun a => status .market (.hold a) zone3) =
      [some .range, some .disabled, some .range, some .range, some .range, some .range, some .gateClosed, some .range,
       some .short, some .short]
    ∧ status .market (.hold hold450) (labIn .failed) = some .wrongState := by decide +kernel
/-- A HOLD between its computing phase and its commit, as TABLE 8(a) leaves its scratch, with c since moved. -/
def committing (orphan : Bool) (c : Nat) (a : HoldArgs) : State :=
  { zone3 with
    mtu := { zone3.mtu with clock := c }
    eng := { zone3.eng with
      job := some (.admission ⟨⟨.market, 0, 9#8, .hold a, 0⟩, orphan⟩), scratch := some (holdScratch a zone3) } }
/-- The commit (R91, R120): the last c at which interval 10,421 is open under a gate lead of 4, the first at which it is not, a
time state lost, an orphan, and a job refused in its computing phase. -/
theorem witness_hold_commit :
    let ends (s : State) := ((answer .market (after (.hold .job) s)).map (·.1), (after (.hold .job) s).cmt.records.map (·.quantity))
    [ends (committing false 10416 hold450), ends (committing false 10417 hold450),
     ends { committing false 10400 hold450 with mtu := { zone3.mtu with timeState := .failed } },
     ends (committing true 10416 hold450), ends (committing false 10400 { hold450 with quantity := 610#16 }),
     ends (committing false 10400 { hold450 with quantity := 40#16 })]
    = [(some .ok, [450]), (some .gateClosed, []), (some .wrongState, []), (none, [450]), (some .short, []), (some .range, [])] := by
  decide +kernel
theorem witness_HoldCommitsHeldRecord : zone3.ready = true ∧ zone3.freeSlot .market = some 0
    ∧ zone3.mtu.timeState = .locked ∧ (zone3.product 2).enabled = true ∧ zone3.eng.bookInterval = some 10400
    ∧ totalHeadroom (selectGroups ((zone3.zoneGroups 3).map (zone3.groupHeadroom up2 10421 4))) = 605
    ∧ status .market (.hold ⟨2#8, 3#8, 10421#32, 4#8, 600#16⟩) zone3 = some .ok := by decide +kernel
theorem witness_QueryHeadroomReports : zone3.ready = true ∧ zone3.freeSlot .market = some 0
    ∧ [(⟨8#8, 3#8, 10421#32, 4#8⟩ : QueryArgs), ⟨7#8, 3#8, 10421#32, 4#8⟩, ⟨2#8, 16#8, 10421#32, 4#8⟩,
       ⟨2#8, 3#8, 10399#32, 4#8⟩, ⟨2#8, 3#8, 10400#32, 16#8⟩, ⟨2#8, 3#8, 10493#32, 4#8⟩].map
      (fun a => status .market (.queryHeadroom a) zone3) =
      [some .range, some .disabled, some .range, some .range, some .ok, some .range] := by decide +kernel
theorem witness_AwardChecksAndReduces : held.ready = true
    ∧ (after (.read .market (.whole 50)) held).freeSlot .market = some 0 ∧ held.cmt.record 0 ≠ none
    ∧ [(⟨512#16, 0#8, 300#16⟩ : AwardArgs), ⟨1#16, 0#8, 300#16⟩, ⟨0#16, 1#8, 300#16⟩, ⟨0#16, 0#8, 450#16⟩,
       ⟨0#16, 0#8, 460#16⟩, ⟨0#16, 0#8, 50#16⟩, ⟨0#16, 0#8, 0#16⟩].map (fun a => status .market (.award a) held) =
      [some .unknown, some .unknown, some .unknown, some .ok, some .range, some .ok, some .ok]
    ∧ status .market (.award ⟨0#16, 0#8, 50#16⟩) awarded = some .wrongState
    ∧ status .market (.award ⟨0#16, 0#8, 50#16⟩) { held with mtu := { held.mtu with timeState := .failed } } = some .wrongState
    ∧ [10416, 10417].map (fun c => status .market (.award ⟨0#16, 0#8, 50#16⟩) { held with mtu := { held.mtu with clock := c } })
      = [some .ok, some .gateClosed]
    ∧ held.cmt.records.map (·.shares) = [[⟨5, 164⟩, ⟨9, 59⟩, ⟨12, 227⟩]]
    ∧ [10420, 10421, 10424, 10425].map (fun i => (held.cgr.entry 9 i).load.pUp - (awarded.cgr.entry 9 i).load.pUp)
      = [0, 20, 20, 0] := by decide +kernel
theorem witness_ReleaseRemovesRecord :
    [(⟨512#16, 0#8⟩ : ReleaseArgs), ⟨0#16, 1#8⟩, ⟨0#16, 0#8⟩].map (fun a => status .market (.release a) awarded)
      = [some .unknown, some .unknown, some .ok]
    ∧ status .market (.release ⟨17#16, 0#8⟩) delivering = some .gateClosed
    ∧ status .market (.release ⟨0#16, 0#8⟩) { awarded with mtu := { awarded.mtu with timeState := .failed } } = some .wrongState
    ∧ status .market (.release ⟨0#16, 0#8⟩) { held with mtu := { held.mtu with timeState := .failed } } = some .ok := by
  decide +kernel

def settling (n : Nat) : Commitment := { c17 with id := n, state := .settling, figures := some ⟨50, 6006#32⟩ }
def queued : Settlement := c17.settled ⟨50, 6006#32⟩
def backlog : State := { lab with cmt := { lab.cmt with
  records := [settling 3, settling 4, settling 5, settling 6, settling 7], queue := List.replicate 64 queued } }
theorem backlog_inv : backlog.BookInv := by
  refine ⟨by decide, by decide, by decide, by decide, by decide, ?_, by decide, by decide⟩
  intro x h
  cases (show none = some x from h)
theorem witness_ReadSettlementRefillsQueue : backlog.ready = true ∧ backlog.freeSlot .market = some 0 ∧ backlog.BookInv
    ∧ (after (.readSettlement (.request .market 1#8 ())) backlog).cmt.queue.length = 64
    ∧ (after (.readSettlement (.request .market 1#8 ())) backlog).cmt.records = [settling 7] :=
  ⟨by decide, by decide, backlog_inv, by decide +kernel, by decide +kernel⟩
theorem witness_RegistryIsSetAndRollupRaised : held.ready = true ∧ held.freeSlot .fleet = some 0
    ∧ [(⟨4095#16, 63#8, 0#16, 0#16, 0#16, 0#16⟩ : SiteArgs), ⟨4096#16, 0#8, 0#16, 0#16, 0#16, 0#16⟩,
       ⟨0#16, 64#8, 0#16, 0#16, 0#16, 0#16⟩, ⟨0#16, 255#8, 0#16, 0#16, 0#16, 0#16⟩].map (fun a => status .fleet (.siteSet a) held)
      = [some .ok, some .range, some .range, some .ok]
    ∧ [(⟨63#8, 15#8, 3#8, 1001#16⟩ : GroupArgs), ⟨64#8, 0#8, 0#8, 0#16⟩, ⟨0#8, 16#8, 0#8, 0#16⟩, ⟨0#8, 0#8, 4#8, 0#16⟩,
       ⟨5#8, 4#8, 0#8, 0#16⟩, ⟨5#8, 3#8, 1#8, 950#16⟩].map (fun a => status .fleet (.groupSet a) held)
      = [some .ok, some .range, some .range, some .range, some .inUse, some .ok]
    ∧ [(3#8, 1#8), (4#8, 0#8), (0#8, 2#8)].map
        (fun x => status .fleet (.curveSet ⟨x.1, x.2, List.replicate 16 0#16⟩) held) = [some .ok, some .range, some .range]
    ∧ (after (.groupSet (.request .fleet 1#8 ⟨5#8, 3#8, 1#8, 950#16⟩)) held).eng.job.isSome = true := by decide +kernel
theorem witness_ForecastWritesAndRescans : zone3.ready = true ∧ zone3.freeSlot .fleet = some 0
    ∧ [(63#8, 10400#32, 16), (64#8, 10400#32, 1), (0#8, 10399#32, 1), (0#8, 10495#32, 1), (0#8, 10495#32, 2)].map (fun x =>
        status .fleet (.forecast ⟨x.1, x.2.1, List.replicate x.2.2 ⟨1#16, 1#16, 1#16, 1#16⟩⟩) zone3)
      = [some .ok, some .range, some .range, some .ok, some .range]
    ∧ status .fleet (.forecast ⟨0#8, 0#32, [⟨1#16, 1#16, 1#16, 1#16⟩]⟩) fresh = some .range := by decide +kernel

/-- c one ahead of b, and a ROLLOVER at a stage. -/
def rolling (st : RolloverStage) : State := { delivering with
  mtu := { lab.mtu with clock := 10404 }, eng := { lab.eng with bookInterval := some 10403, job := some (.rollover st) } }
theorem rolling_book (st : RolloverStage) : (rolling st).BookInv := by
  refine ⟨.nil, Nat.zero_le _, (by decide : [c17, c23].Pairwise (fun a b => a.id < b.id)),
    (by decide : ∀ r ∈ [c17, c23], r.id < 512), (by decide : ∀ r ∈ [c17, c23], r.shares.Pairwise (fun a b => a.group < b.group)),
    fun x h => ?_, Nat.zero_le _, fun ⟨r, hr, h⟩ => absurd h ((by decide : ∀ r ∈ [c17, c23], r.state ≠ .settling) r hr)⟩
  cases (show none = some x from h)
theorem witness_RolloverWorksItsStages : (rolling .between).supply = .running
    ∧ (after (.rollover .event) (rolling .between)).eng.job = some (.rollover (.completion []))
    ∧ (after (.rollover .event) (rolling (.retirement []))).eng.bookInterval = some 10404
    ∧ (after (.rollover .event) { rolling .between with mtu := { lab.mtu with clock := 10403 } }).eng.job = none
    ∧ (after (.rollover .event) { rolling (.intervalEnd [] [2]) with acu := ramping.acu }).acu.records
      = [⟨2, 0, 858, some .intervalEnd, 6, .grid⟩] := by decide +kernel
theorem witness_RolloverCompletesAndExpires : (rolling (.completion [])).BookInv
    ∧ (after (.rollover .event) (rolling (.completion []))).cmt.queue.map (·.id) = [17, 23]
    ∧ (after (.rollover .event) { rolling (.completion []) with
        cmt := { lab.cmt with records := [c17, c23], queue := List.replicate 63 queued } }).cmt.records.map (fun x => (x.id, x.state))
      = [(23, .settling)]
    ∧ (after (.rollover .event) { rolling (.expiry []) with cmt := { lab.cmt with
        records := [{ c17 with state := .held, first := 10407 }, { c23 with state := .held, first := 10408 }] } }).cmt.records.map (·.id)
      = [23]
    ∧ (let s := after (.rollover .event) { rolling (.expiry []) with
        cmt := { lab.cmt with records := [{ c17 with state := .held, first := 10407 }] }
        cgr := { ring := [(64 * 42 + 5, { load := ⟨110, 0, 55, 0⟩ }), (64 * 43 + 5, { load := ⟨110, 0, 55, 0⟩ })] } }
       [10410, 10411].map (fun i => (s.cgr.entry 5 i).load.pUp) = [0, 110]) :=
  ⟨rolling_book _, by decide +kernel, by decide +kernel, by decide +kernel, by decide +kernel⟩
theorem witness_SettlementFiguresAreWorkedAtCompletion : (rolling (.completion [(2, ⟨7250000#48, 46106#32⟩)])).BookInv
    ∧ c17 ∈ (rolling (.completion [])).cmt.records ∧ c17.first + c17.count - 1 = 10403
    ∧ c17.snapshot = some ⟨1250000#48, 40100#32⟩ := ⟨rolling_book _, by decide, by decide, by decide⟩
theorem witness_RolloverReachesClockInterval : (rolling (.retirement [])).TimeInv
    ∧ (after (.rollover .whole) (rolling (.retirement []))).eng.bookInterval = some 10404 := by
  refine ⟨⟨by decide, by decide, by decide, ?_, ?_, ?_⟩, by decide +kernel⟩
  · intro b h
    cases h
    decide
  · intro st _ _
    rfl
  · intro a b h _
    cases h
    decide
theorem witness_RollupWorksItsStages : busy.supply = .running
    ∧ (after (.rollup .event) (withJob (.rollup .snapshot) lab)).eng.job
      = some (.rollup (.figures ⟨4996#32, 30, [], lab.frg, []⟩))
    ∧ (after (.rollup .event) busy).eng.job = some (.rollup .verify)
    ∧ (after (.rollup .event) (withJob (.rollup (.write [⟨5, 70, 56, [2, 6], 50⟩])) lab)).dvu
      = ⟨some ⟨10400, 450, 0, ⟨5, 70, 56, [2, 6], 50⟩⟩, 0⟩
    ∧ (after (.rollup .whole) (withJob (.rollup .trigger) (guarding 1))).eng.job = none
    ∧ (after (.rollup .whole) busy).eng.job = none ∧ (after (.rollup .whole) busy).tiu = busy.tiu
    ∧ (after (.rollup .whole) (withJob (.rollup .snapshot) lab)).eng.job = none
    ∧ (after (.rollup .event) (withJob (.rollup .trigger) { lab with dsp := { groups := [(5, { published := 1 })] } })).eng.job
      = some (.dispatch [] []) := by decide +kernel

/-- TABLE 11(b): tick t + 12 is before the delay of 20, t + 20 is not. -/
def verifying (tick : Nat) (m : Int) : State := { delivering with
  acu := { records := [act2 700 700 9, ⟨6, -175, -175, none, 9, .grid⟩] }
  tiu := { groups := [(5, { measured := m })] }
  dsp := { groups := [(5, { computed := 70, published := 70, mask := [2, 6] })], tickCount := BitVec.ofNat 32 tick } }
theorem witness_ShortGroupsFailTheTest : (verifying 19 56).shortGroups = []
    ∧ (verifying 20 56).shortGroups = [⟨5, 70, 56, [2, 6], 50⟩] ∧ (verifying 20 67).shortGroups = [] := by decide +kernel
theorem witness_DispatchCommitPublishesAndSplits : (withJob (.dispatch [(2, 700), (6, -175)] []) delivering).canonical = true
    ∧ (withJob (.dispatch [(2, 700), (6, -175)] []) delivering).supply = .running := by decide +kernel
theorem witness_SplitSumsToTargetWithinCapability : ([(1207, 44), (1208, 30), (1250, 40)].map (·.1)).Nodup := by decide
theorem witness_EngineStartsHighestRankedWork :
    let e : Engine := { activation := [.trip ⟨.uft, 2, 1000⟩], dispatch := ⟨true, 0⟩, housekeeping := ⟨true, 0⟩
                        rollup := ⟨true, 0⟩, fleet := [⟨.fleet, 0, 0#8, .siteSet ⟨0#16, 0#8, 0#16, 0#16, 0#16, 0#16⟩, 0⟩]
                        book := [⟨.market, 0, 0#8, .readSettlement, 0⟩]
                        admission := [⟨.market, 1, 0#8, .hold hold450, 0⟩], bookInterval := some 10400 }
    let rank (e : Engine) := (State.choose { zone3 with eng := e }).eng.classInProgress
    [rank e, rank { e with activation := [] }, rank { e with activation := [], dispatch := {} },
     rank { e with activation := [], dispatch := {}, housekeeping := {} },
     rank { e with activation := [], dispatch := {}, housekeeping := {}, rollup := {} },
     rank { e with activation := [], dispatch := {}, housekeeping := {}, rollup := {}, fleet := [] },
     rank { e with activation := [], dispatch := {}, housekeeping := {}, rollup := {}, fleet := [], book := [] },
     rank {}] = [1, 2, 3, 4, 5, 6, 7, 0] := by decide +kernel
theorem witness_ArrivalsMergeAndAbandon :
    let s (n : Nat) := withJob (.admission ⟨⟨.market, 0, 9#8, .hold hold450, n⟩, false⟩) zone3
    (s 2).freeSlot .grid = some 0
    ∧ ((after (.activate (.request .grid 7#8 ⟨2#8, 1000#16⟩)) (s 2)).eng.admission.map (·.abandons)) = [3]
    ∧ (after (.activate (.request .grid 7#8 ⟨2#8, 1000#16⟩)) (s 2)).eng.classInProgress = 1
    ∧ (after (.activate (.request .grid 7#8 ⟨2#8, 1000#16⟩)) (s 3)).eng.classInProgress = 7 := by decide +kernel
theorem witness_OnlyJobsWriteTheBook : Instr.outsideEngine .tickEvent = true
    ∧ exec .tickEvent held = .next (after .tickEvent held) := ⟨rfl, exec_eq_after (by decide +kernel)⟩
theorem witness_StepKeepsTimeInvariant : (rolling .between).TimeInv ∧ (rolling .between).pending.head? ≠ some .resetRelease := by
  refine ⟨⟨by decide, by decide, by decide, ?_, ?_, ?_⟩, by decide⟩
  · intro b h
    cases h
    decide
  · intro st _ _
    rfl
  · intro a b _ h
    exact absurd h (by simp [rolling])
theorem witness_StepKeepsActivationInvariant : ramping.ActivationInv
    ∧ ({ busy.eng with activation := [.trip ⟨.uft, 2, 1000⟩, .trip ⟨.oft, 1, -1000⟩] } : Engine).oneTripEach :=
  ⟨witness_TickStepsEveryActivation.2.1, fun l => by cases l <;> decide⟩

/-- The commitment c17 in delivery, with the loads of its share in its four intervals. -/
def loaded : State :=
  let e : GridEntry := { load := ⟨110, 0, 55, 0⟩ }
  { lab with
    frg := { groups := [(5, ⟨3, 0, 1000⟩)] }
    cgr := { ring := [(64 * 32 + 5, e), (64 * 33 + 5, e), (64 * 34 + 5, e), (64 * 35 + 5, e)] }
    cmt := { lab.cmt with records := [c17] } }
theorem loaded_time : loaded.TimeInv := by
  refine ⟨by decide, by decide, by decide, ?_, ?_, ?_⟩
  · intro b h
    cases h
    decide
  · intro st h
    cases (show none = some (Job.rollover st) from h)
  · rintro a b _ (h | h) <;> cases (show none = some _ from h)
theorem loaded_book : loaded.BookInv := by
  refine ⟨by decide, by decide, by decide, by decide, by decide, ?_, by decide, by decide⟩
  intro x h
  cases (show none = some x from h)
theorem loaded_records : loaded.RecordInv where
  enabled := by
    intro p
    have h : loaded.product p = if 1 = p then down1 else if 2 = p then up2 else if 6 = p then sym6 else {} := rfl
    rw [h]
    split_ifs <;> decide
  unopened := by decide
  range := by decide
  horizon := by
    intro b h
    cases h
    decide
  shares := by
    intro r h _
    obtain rfl := List.mem_singleton.mp h
    exact ⟨⟨by decide, by decide⟩, ⟨by decide, by decide, by decide, by decide⟩⟩
  snapshot := by
    intro b h r hr
    cases h
    obtain rfl := List.mem_singleton.mp hr
    exact ⟨by decide, by decide, by decide⟩
  figures := by decide
  issue := by decide
  unqueued := by decide
  queue_once := by decide
  scratch := by
    intro r a x h
    cases (show none = some (Job.admission r) from h)
theorem loaded_loads : loaded.LoadInv := by
  have all : ∀ g, g < 64 → ∀ k, k < 96 → (loaded.cgr.entry g (10400 + k)).load = loaded.committedLoad g (10400 + k) := by
    decide +kernel
  intro _ b g i hb hg hl hu _
  cases hb
  obtain ⟨k, rfl⟩ := Nat.exists_eq_add_of_le hl
  exact all g hg k (by simp only [Config.horizon] at hu; omega)
theorem witness_StepKeepsBookInvariant : backlog.BookInv ∧ loaded.TimeInv ∧ loaded.BookInv ∧ loaded.RecordInv :=
  ⟨backlog_inv, loaded_time, loaded_book, loaded_records⟩
theorem witness_StepKeepsCanonicalAndSettled : held.canonical = true ∧ held.settled = true
    ∧ step { held with pending := [.tickEvent] } = .next (after .tickEvent { held with pending := [] }) :=
  ⟨by decide +kernel, by decide +kernel, step_eq_after (by decide +kernel)⟩
/-- A dirty set at both ends of the site numbers, of which SETPOINT_CHANGES takes both. -/
theorem witness_dirty_set : ({ dirty := [0, 4095] } : DispatchUnit).dirtyOrdered
    ∧ (after (.setpointChanges .fleet 1#8) { lab with dsp := { dirty := [0, 4095] } }).dsp.dirty = [] :=
  ⟨⟨by decide, by decide⟩, by decide +kernel⟩
/-- Seventeen groups of equal headroom, of which the last is not taken, and one of 0 that is not eligible. -/
theorem witness_selection : let l : List Headroom := (List.range 18).map (fun g => ⟨17 - g, if g = 17 then 0 else 1, 0⟩)
    (l.map (·.group)).Nodup ∧ (selectGroups l).map (·.group) = (List.range 16).map (· + 1)
    ∧ totalHeadroom (selectGroups l) = 16 := by decide +kernel
theorem witness_AllocationIsByLargestRemainder : ([(5, 220), (9, 80), (12, 305)].map (·.1)).Nodup
    ∧ (∀ w ∈ [(5, 220), (9, 80), (12, 305)], 1 ≤ w.2) ∧ 605 = ([(5, 220), (9, 80), (12, 305)].map (·.2)).sum := by decide
theorem witness_loads_are_sums : loaded.TimeInv ∧ loaded.BookInv ∧ loaded.RecordInv ∧ loaded.LoadInv
    ∧ step { loaded with pending := [.tickEvent] } = .next (after .tickEvent { loaded with pending := [] }) :=
  ⟨loaded_time, loaded_book, loaded_records, loaded_loads, step_eq_after (by decide +kernel)⟩
theorem witness_HoldKeepsLoadsWithinLimits : zone3.ready = true
    ∧ exec (.hold (.request .market 9#8 hold450)) zone3 = .next held ∧ zone3.eng.inHorizon 10421 = true :=
  ⟨by decide, (exec_eq_after (i := .hold (.request .market 9#8 hold450)) (by decide +kernel)).trans (by rw [held]), by decide⟩
theorem witness_RescanListsPairsInDeficit : backlog.BookInv ∧ backlog.eng.bookInterval = some 10400
    ∧ [(10400, 5), (10400, 6), (10401, 0)].Pairwise (fun x y => x.1 < y.1 ∨ (x.1 = y.1 ∧ x.2 < y.2)) :=
  ⟨backlog_inv, rfl, by decide⟩
theorem witness_FrameCheckAcceptsExactlyFrames : (Request.hold hold450).presentable .market = true
    ∧ (Request.hold hold450).presentable .grid = false
    ∧ (Request.telemetry (List.replicate 32 ⟨0#16, 0#16, 0#8, 0#16⟩)).presentable .fleet = true := by decide
theorem witness_EnergySpareConvertsExactly : (306 * 60 + 59) / 60 ≤ 306 ∧ up2.direction = .up ∧ sym6.direction = .sym
    ∧ zone3.directionHeadroom up2 5 10421 = 220 ∧ zone3.zoneGroups 3 = [5, 9, 12, 20]
    ∧ zone3.groupHeadroom up2 10421 1 5 = ⟨5, 220, 10421⟩ ∧ zone3.groupHeadroom up2 10421 4 12 = ⟨12, 305, 10424⟩ := by decide +kernel
/-- R73: loads of one below, at and one above a limit of 90, and a load of 0 at a limit of 0. -/
theorem witness_deficit_kinds :
    let s (load : Nat) : State := { lab with cgr := { ring := [(64 * 53 + 5, { forecast := ⟨101, 0, 0, 0⟩, load := ⟨load, 0, 0, 0⟩ })] } }
    ((s 0).limits 5 10421).pUp = 90 ∧ [89, 90, 91].map (fun n => ((s n).kinds 5 10421).pUp) = [false, false, true]
    ∧ ((s 91).kinds 5 10421).pDn = false ∧ ((s 90).kinds 5 10421).any = false := by decide +kernel
/-- TABLE 5(b), with an energy of 7 × 15 / 60 rounded up. -/
theorem witness_contribution : contribution down1 7 = ⟨0, 7, 0, 2⟩ ∧ contribution sym6 7 = ⟨7, 7, 2, 2⟩
    ∧ contribution up2 110 = ⟨110, 0, 55, 0⟩ ∧ contribution up2 0 = ⟨0, 0, 0, 0⟩ := by decide
/-- The near window of 1 at b = 10,400: its last interval and the one beyond. -/
theorem witness_effective_capability :
    let s : State := { lab with
      tiu := { groups := [(5, { pUp := 60, eUp := 500 })] }
      cgr := { ring := [32, 33, 34].map (fun k => (64 * k + 5, { forecast := ⟨100, 0, 200, 0⟩ })) } }
    s.eng.bookInterval = some 10400 ∧ s.eng.settings.near = 1
    ∧ [10400, 10401, 10402].map (s.effective 5) = [⟨60, 0, 200, 0⟩, ⟨60, 0, 200, 0⟩, ⟨100, 0, 200, 0⟩] := by decide +kernel
theorem witness_LimitsAreEffectiveCapabilityUnderMargin : zone3.eng.settings.margin = 26
    ∧ zone3.effective 5 10421 = ⟨412, 0, 930, 0⟩
    ∧ zone3.limits 5 10421 = { zone3 with pending := [.tickEvent] }.limits 5 10421 := by decide +kernel
/-- A pair whose load of 150 exceeds a limit of 100: its rescan lists it and raises DEFICIT. -/
theorem test_rescan_lists :
    let s : State := { lab with cgr := { ring := [(64 * 53 + 5, { forecast := ⟨112, 0, 0, 0⟩, load := ⟨150, 0, 0, 0⟩ })] } }
    (s.rescan [(10421, 5)]).cgr.deficits = [⟨5, 10421, ⟨true, false, false, false⟩⟩]
    ∧ (s.rescan [(10421, 5)]).count .grid .deficit = 1 ∧ (s.rescan [(10420, 5)]).cgr.deficits = [] := by decide +kernel
/-- 65 pairs in deficit: the rescan lists the first 64 and sets the overflow flag. -/
theorem test_rescan_overflows :
    let s : State := { lab with cgr := { ring := (List.range 65).map (fun k => (64 * 32 + k, { load := ⟨1, 0, 0, 0⟩ })) } }
    let u := s.rescan (pairsOver 10400 2)
    u.cgr.overflow = true ∧ u.cgr.deficits.map (fun d => (d.interval, d.group)) = (List.range 64).map (fun g => (10400, g))
    ∧ (s.test (10401, 0)).kinds.any = true := by decide +kernel

end Sys2Proof.Tests
end

section
/-! PROOFS. Effective capability, limits and deficit kinds of a pair (5.3, 5.4): one lemma per case of each definition, and
from them the statement on limits and deficits. -/
namespace Sys2Proof.Machine

/-! ### Effective capability (R71) -/

/-- Inside the near window. -/
theorem State.effective_of_near {s : State} {b : Nat} (g : Nat) {i : Nat} (hb : s.eng.bookInterval = some b)
    (hlow : b ≤ i) (hhigh : i ≤ b + s.eng.settings.near) :
    s.effective g i =
      ⟨min (s.cgr.entry g i).forecast.pUp (s.tiu.group g).pUp, min (s.cgr.entry g i).forecast.pDn (s.tiu.group g).pDn,
       min (s.cgr.entry g i).forecast.eUp (s.tiu.group g).eUp, min (s.cgr.entry g i).forecast.eDn (s.tiu.group g).eDn⟩ := by
  simp only [State.effective, hb]
  exact if_pos ⟨hlow, hhigh⟩

/-- Beyond the near window. -/
theorem State.effective_of_beyond {s : State} {b : Nat} (g : Nat) {i : Nat} (hb : s.eng.bookInterval = some b)
    (hbeyond : b + s.eng.settings.near < i) : s.effective g i = (s.cgr.entry g i).forecast := by
  simp only [State.effective, hb]
  exact if_neg fun hnear => absurd hnear.2 (Nat.not_le.mpr hbeyond)

/-! ### The margin (R72) -/

@[simp] theorem underMargin_zero (x : Nat) : underMargin 0 x = x :=
  Nat.mul_div_cancel x (by decide)

/-- A 16-bit figure's product with the margin's factor stays within 16 bits times 256. -/
theorem margin_product_le (m : Nat) {x : Nat} (hx : x ≤ 65535) : x * (256 - m) ≤ 65535 * 256 :=
  Nat.mul_le_mul hx (Nat.sub_le 256 m)

theorem State.limits_eq (s : State) (g i : Nat) :
    s.limits g i =
      ⟨underMargin s.eng.settings.margin (s.effective g i).pUp, underMargin s.eng.settings.margin (s.effective g i).pDn,
       underMargin s.eng.settings.margin (s.effective g i).eUp, underMargin s.eng.settings.margin (s.effective g i).eDn⟩ :=
  rfl

theorem State.limits_of_margin_zero {s : State} (g i : Nat) (hm : s.eng.settings.margin = 0) :
    s.limits g i = s.effective g i := by
  simp only [State.limits_eq, hm, underMargin_zero]

/-! ### The kinds of a deficit (R73) -/

/-- The kinds in which the loads `d` exceed the limits `l`. -/
def Quad.exceeds (d l : Quad) : Kinds :=
  ⟨decide (l.pUp < d.pUp), decide (l.pDn < d.pDn), decide (l.eUp < d.eUp), decide (l.eDn < d.eDn)⟩

theorem State.kinds_eq_exceeds (s : State) (g i : Nat) : s.kinds g i = (s.cgr.entry g i).load.exceeds (s.limits g i) := rfl

theorem Quad.exceeds_any_iff (d l : Quad) :
    (d.exceeds l).any = true ↔ l.pUp < d.pUp ∨ l.pDn < d.pDn ∨ l.eUp < d.eUp ∨ l.eDn < d.eDn := by
  simp only [Quad.exceeds, Kinds.any, Bool.or_eq_true, decide_eq_true_eq, or_assoc]

@[simp] theorem Quad.exceeds_self (d : Quad) : d.exceeds d = ⟨false, false, false, false⟩ := by
  simp only [Quad.exceeds, Nat.lt_irrefl, decide_false]

@[simp] theorem Quad.zero_exceeds (l : Quad) : Quad.exceeds ⟨0, 0, 0, 0⟩ l = ⟨false, false, false, false⟩ := by
  simp only [Quad.exceeds, Nat.not_lt_zero, decide_false]

/-! ### What the deficit test and the headroom read -/

section
variable {s t : State} {g i : Nat} (hlimits : s.limits g i = t.limits g i)
  (hload : (s.cgr.entry g i).load = (t.cgr.entry g i).load)
include hlimits hload

theorem State.kinds_congr : s.kinds g i = t.kinds g i := by
  rw [State.kinds_eq_exceeds, State.kinds_eq_exceeds, hlimits, hload]

theorem State.spares_congr : s.spares g i = t.spares g i := by
  rw [State.spares, State.spares, hlimits, hload]

theorem State.directionHeadroom_congr (p : Product) : s.directionHeadroom p g i = t.directionHeadroom p g i := by
  rw [State.directionHeadroom, State.directionHeadroom, State.spares_congr hlimits hload]

end

/-- Settles O56, from the case lemmas of effective capability, the margin and the kinds. -/
theorem limitsAreEffectiveCapabilityUnderMargin : Obligations.LimitsAreEffectiveCapabilityUnderMargin := by
  refine ⟨fun s b g i hb => ⟨State.effective_of_near g hb, State.effective_of_beyond g hb⟩, fun s g i => ?deficit,
    fun s g i => ?margin, fun s t g i hlimits hload =>
      ⟨State.kinds_congr hlimits hload, State.directionHeadroom_congr hlimits hload⟩⟩
  case deficit =>
    refine ⟨State.kinds_eq_exceeds s g i, Quad.exceeds_any_iff _ _, ?_⟩
    rintro (atLimit | noLoad)
    · rw [State.kinds_eq_exceeds, atLimit, Quad.exceeds_self]
    · rw [State.kinds_eq_exceeds, noLoad, Quad.zero_exceeds]
  case margin =>
    refine ⟨State.limits_eq s g i, State.limits_of_margin_zero g i, fun quarter => ?_, margin_product_le _,
      margin_product_le _, margin_product_le _, margin_product_le _⟩
    rw [State.limits_eq, quarter]
    rfl

end Sys2Proof.Machine
end

section
/-! PROOFS. Headroom (8.2): the conversion of an energy spare into power, the contributions of a share by direction, the
spares and the direction headroom of a pair, the groups of a zone, and the scan that finds a range's binding interval; from
them the statement on energy spares. -/
namespace Sys2Proof.Machine

/-! ### The conversion of an energy spare (R115) -/

/-- A quotient rounded up is within a bound exactly when the dividend is within the bound's product. -/
theorem ceilDiv_le_iff {d : Nat} (hd : 0 < d) (a c : Nat) : ceilDiv a d ≤ c ↔ a ≤ c * d := by
  calc ceilDiv a d ≤ c
      ↔ a + d - 1 < (c + 1) * d := by rw [ceilDiv, ← Nat.lt_succ_iff, Nat.div_lt_iff_lt_mul hd]
    _ ↔ a ≤ c * d := by rw [Nat.succ_mul]; omega

/-- The energy load of a share fits the energy spare exactly when the share is at most the converted value. -/
theorem energyLoad_le_spare_iff {t : Nat} (ht : 0 < t) (power spare : Nat) :
    ceilDiv (power * t) 60 ≤ spare ↔ power ≤ 60 * spare / t := by
  rw [ceilDiv_le_iff (by decide), Nat.le_div_iff_mul_le ht, Nat.mul_comm spare]

/-! ### The contributions of a share (TABLE 5(b)) -/

section
variable {p : Product} (share : Nat)

theorem contribution_of_up (hdir : p.direction = .up) :
    contribution p share = ⟨share, 0, ceilDiv (share * p.sustain) 60, 0⟩ := by
  simp only [contribution, hdir]

theorem contribution_of_down (hdir : p.direction = .down) :
    contribution p share = ⟨0, share, 0, ceilDiv (share * p.sustain) 60⟩ := by
  simp only [contribution, hdir]

theorem contribution_of_sym (hdir : p.direction = .sym) :
    contribution p share =
      ⟨share, share, ceilDiv (share * p.sustain) 60, ceilDiv (share * p.sustain) 60⟩ := by
  simp only [contribution, hdir]

/-- UP and SYM shares load the upward energy. -/
theorem contribution_eUp (hsome : p.direction ≠ .none) (hup : p.direction ≠ .down) :
    (contribution p share).eUp = ceilDiv (share * p.sustain) 60 := by
  cases hdir : p.direction with
  | none => exact absurd hdir hsome
  | up => rw [contribution_of_up share hdir]
  | down => exact absurd hdir hup
  | sym => rw [contribution_of_sym share hdir]

/-- DOWN and SYM shares load the downward energy. -/
theorem contribution_eDn (hsome : p.direction ≠ .none) (hdown : p.direction ≠ .up) :
    (contribution p share).eDn = ceilDiv (share * p.sustain) 60 := by
  cases hdir : p.direction with
  | none => exact absurd hdir hsome
  | up => exact absurd hdir hdown
  | down => rw [contribution_of_down share hdir]
  | sym => rw [contribution_of_sym share hdir]

end

/-! ### Spares and direction headroom (R114, R115) -/

theorem State.spares_eq (s : State) (g i : Nat) :
    s.spares g i =
      ⟨(s.limits g i).pUp - (s.cgr.entry g i).load.pUp, (s.limits g i).pDn - (s.cgr.entry g i).load.pDn,
       (s.limits g i).eUp - (s.cgr.entry g i).load.eUp, (s.limits g i).eDn - (s.cgr.entry g i).load.eDn⟩ :=
  rfl

section
variable {p : Product} (s : State) (g i : Nat)

theorem State.directionHeadroom_of_up (hdir : p.direction = .up) :
    s.directionHeadroom p g i = min (s.spares g i).pUp (60 * (s.spares g i).eUp / p.sustain) := by
  simp only [State.directionHeadroom, hdir]

theorem State.directionHeadroom_of_down (hdir : p.direction = .down) :
    s.directionHeadroom p g i = min (s.spares g i).pDn (60 * (s.spares g i).eDn / p.sustain) := by
  simp only [State.directionHeadroom, hdir]

theorem State.directionHeadroom_of_sym (hdir : p.direction = .sym) :
    s.directionHeadroom p g i =
      min (min (s.spares g i).pUp (60 * (s.spares g i).eUp / p.sustain))
        (min (s.spares g i).pDn (60 * (s.spares g i).eDn / p.sustain)) := by
  simp only [State.directionHeadroom, hdir]

end

/-! ### The groups of a zone (R114) -/

theorem State.mem_zoneGroups_iff (s : State) (z g : Nat) :
    g ∈ s.zoneGroups z ↔ g < 64 ∧ (s.frg.group g).zone = z := by
  rw [State.zoneGroups, List.mem_filter, List.mem_range, beq_iff_eq]

theorem State.zoneGroups_ascending (s : State) (z : Nat) : (s.zoneGroups z).Pairwise (fun x y => x < y) :=
  List.pairwise_lt_range.filter _

/-! ### The binding interval of a range (R116) -/

/-- The group headroom's scan: the figure of `first` and of the `n` intervals after it that is least, with its interval;
an equal figure does not replace an earlier one. -/
def leastFrom (f : Nat → Nat) (first n : Nat) : Nat × Nat :=
  ((List.range' (first + 1) n).map (fun i => (f i, i))).foldl (fun a b => if b.1 < a.1 then b else a) (f first, first)

theorem State.groupHeadroom_eq (s : State) (p : Product) (first count g : Nat) :
    s.groupHeadroom p first count g =
      ⟨g, min 65535 (leastFrom (s.directionHeadroom p g) first (count - 1)).1,
       (leastFrom (s.directionHeadroom p g) first (count - 1)).2⟩ :=
  rfl

theorem leastFrom_zero (f : Nat → Nat) (first : Nat) : leastFrom f first 0 = (f first, first) := rfl

theorem leastFrom_succ (f : Nat → Nat) (first n : Nat) :
    leastFrom f first (n + 1) =
      if f (first + 1 + n) < (leastFrom f first n).1 then (f (first + 1 + n), first + 1 + n) else leastFrom f first n := by
  rw [leastFrom, List.range'_1_concat, List.map_append, List.foldl_append]
  rfl

/-- Interval `i` is the earliest of `first .. last` at which `f` is least. -/
structure EarliestLeast (f : Nat → Nat) (first last i : Nat) : Prop where
  first_le : first ≤ i
  le_last : i ≤ last
  least : ∀ j, first ≤ j → j ≤ last → f i ≤ f j
  earliest : ∀ j, first ≤ j → j < i → f i < f j

theorem EarliestLeast.single (f : Nat → Nat) (first : Nat) : EarliestLeast f first first first where
  first_le := le_rfl
  le_last := le_rfl
  least j hfirst hlast := by rw [Nat.le_antisymm hfirst hlast]
  earliest j hfirst hbefore := absurd hbefore (Nat.not_lt.mpr hfirst)

section
variable {f : Nat → Nat} {first last i : Nat} (h : EarliestLeast f first last i)
include h

/-- One more interval with a smaller figure binds. -/
theorem EarliestLeast.extend_of_lt (hless : f (last + 1) < f i) : EarliestLeast f first (last + 1) (last + 1) where
  first_le := Nat.le_succ_of_le (h.first_le.trans h.le_last)
  le_last := le_rfl
  least j hfirst hlast := by
    obtain hbefore | rfl := Nat.le_succ_iff.mp hlast
    · exact hless.le.trans (h.least j hfirst hbefore)
    · exact le_rfl
  earliest j hfirst hbefore := hless.trans_le (h.least j hfirst (Nat.lt_succ_iff.mp hbefore))

/-- One more interval with an equal or larger figure leaves the binding interval. -/
theorem EarliestLeast.extend_of_le (hleast : f i ≤ f (last + 1)) : EarliestLeast f first (last + 1) i where
  first_le := h.first_le
  le_last := Nat.le_succ_of_le h.le_last
  least j hfirst hlast := by
    obtain hbefore | rfl := Nat.le_succ_iff.mp hlast
    · exact h.least j hfirst hbefore
    · exact hleast
  earliest := h.earliest

end

/-- The scan ends with the earliest interval of the least figure, and with that figure. -/
theorem leastFrom_spec (f : Nat → Nat) (first n : Nat) :
    (leastFrom f first n).1 = f (leastFrom f first n).2 ∧ EarliestLeast f first (first + n) (leastFrom f first n).2 := by
  induction n with
  | zero =>
    rw [leastFrom_zero]
    exact ⟨rfl, EarliestLeast.single f first⟩
  | succ n ih =>
    obtain ⟨hfigure, hbinding⟩ := ih
    rw [leastFrom_succ, hfigure, Nat.add_right_comm first 1 n]
    split
    next hless => exact ⟨rfl, hbinding.extend_of_lt hless⟩
    next hleast => exact ⟨hfigure, hbinding.extend_of_le (Nat.not_lt.mp hleast)⟩

/-- The group headroom is that of its binding interval, held at 65535. -/
theorem State.groupHeadroom_power (s : State) (p : Product) (first count g : Nat) :
    (s.groupHeadroom p first count g).power =
      min 65535 (s.directionHeadroom p g (s.groupHeadroom p first count g).binding) := by
  rw [State.groupHeadroom_eq, (leastFrom_spec _ first (count - 1)).1]

theorem State.groupHeadroom_binding (s : State) (p : Product) (first count g : Nat) :
    EarliestLeast (s.directionHeadroom p g) first (first + (count - 1)) (s.groupHeadroom p first count g).binding :=
  (leastFrom_spec (s.directionHeadroom p g) first (count - 1)).2

/-- Settles O57, from the conversion, the case lemmas of contribution and direction headroom, and the scan's binding
interval. -/
theorem energySpareConvertsExactly : Obligations.EnergySpareConvertsExactly := by
  refine ⟨fun power t spare ht => ⟨energyLoad_le_spare_iff ht power spare, fun hspare => Nat.mul_le_mul_left 60 hspare⟩,
    fun p share hsome => ⟨contribution_eUp share hsome, contribution_eDn share hsome, contribution_of_up share,
      contribution_of_down share, contribution_of_sym share⟩,
    fun s p g i => ⟨s.directionHeadroom_of_up g i, s.directionHeadroom_of_down g i, s.directionHeadroom_of_sym g i,
      s.spares_eq g i, fun z => ⟨s.mem_zoneGroups_iff z g, s.zoneGroups_ascending z⟩, fun first count hcount => ?range⟩⟩
  case range =>
    have hlast : ∀ j, j < first + count ↔ j ≤ first + (count - 1) := by omega
    have hbinding := s.groupHeadroom_binding p first count g
    exact ⟨rfl, hbinding.first_le, (hlast _).mpr hbinding.le_last, s.groupHeadroom_power p first count g,
      fun j hfirst hin => ⟨hbinding.least j hfirst ((hlast j).mp hin), hbinding.earliest j hfirst⟩⟩

end Sys2Proof.Machine
end

section
/-! PROOFS. The shortfall test (11.2, 11.3): what it is for a group to be examined, the extremes over a mask, the test itself
and what an entry of the short groups says; from them the statement on short groups. -/
namespace Sys2Proof.Machine

/-! ### The examined groups (R157) -/

theorem Activation.state_eq_holding_iff (r : Activation) : r.state = .holding ↔ r.target ≠ 0 ∧ r.current = r.target := by
  rw [Activation.state]
  split
  next hzero => exact ⟨nofun, fun h => absurd hzero h.1⟩
  next hnonzero =>
    split
    next hreached => exact ⟨fun _ => ⟨hnonzero, hreached⟩, fun _ => rfl⟩
    next hramping => exact ⟨nofun, fun h => absurd h.2 hramping⟩

theorem Acu.holding_iff (a : Acu) (p : Nat) :
    a.holding p = true ↔ ∃ r, a.record p = some r ∧ r.target ≠ 0 ∧ r.current = r.target := by
  rw [Acu.holding]
  cases a.record p with
  | none => exact ⟨nofun, fun ⟨_, hnone, _⟩ => nomatch hnone⟩
  | some r => simp only [beq_iff_eq, Activation.state_eq_holding_iff, Option.some.injEq, exists_eq_left']

/-- The largest verify delay is at most a count exactly when every delay of the mask is. -/
theorem State.verifyDelay_le_iff (s : State) (mask : List Nat) (n : Nat) :
    s.verifyDelay mask ≤ n ↔ ∀ p ∈ mask, (s.product p).verifyDelay ≤ n := by
  have hlargest : (0 :: mask.map (fun p => (s.product p).verifyDelay)).max? = some (s.verifyDelay mask) := List.max?_cons'
  rw [List.max?_le_iff hlargest, List.forall_mem_cons, List.forall_mem_map]
  exact and_iff_right (Nat.zero_le n)

/-- The ticks since a last change, modulo 2^32. -/
theorem Word.toNat_sub_eq (count last : Word) : (count - last).toNat = (count.toNat + 2 ^ 32 - last.toNat) % 2 ^ 32 := by
  bv_omega

theorem State.examined_iff (s : State) (g : Nat) :
    s.examined g = true ↔ (s.dsp.group g).published ≠ 0 ∧ (s.dsp.group g).guard = false
      ∧ (∀ p ∈ (s.dsp.group g).mask, ∃ r, s.acu.record p = some r ∧ r.target ≠ 0 ∧ r.current = r.target)
      ∧ ∀ p ∈ (s.dsp.group g).mask,
          (s.product p).verifyDelay ≤ (s.dsp.tickCount.toNat + 2 ^ 32 - (s.dsp.group g).lastChange.toNat) % 2 ^ 32 := by
  simp only [State.examined, Bool.and_eq_true, decide_eq_true_eq, Bool.not_eq_true', List.all_eq_true, Acu.holding_iff,
    s.verifyDelay_le_iff, Word.toNat_sub_eq, and_assoc]

/-! ### The test (R158) -/

theorem isShort_iff (published measured : Int) (tolerance : Nat) :
    isShort published measured tolerance = true ↔ (0 < published ∧ measured ≤ 0) ∨ (published < 0 ∧ 0 ≤ measured)
      ∨ measured.natAbs * 1000 < published.natAbs * (1000 - tolerance) := by
  rw [isShort, Bool.or_eq_true, decide_eq_true_eq, decide_eq_true_eq, or_assoc]

/-- A tolerance of the mask that no product of it falls below is the one the test applies. -/
theorem State.tolerance_eq (s : State) {mask : List Nat} {tol : Nat} (hmem : ∃ p ∈ mask, (s.product p).tolerance = tol)
    (hleast : ∀ p ∈ mask, tol ≤ (s.product p).tolerance) : s.tolerance mask = tol := by
  cases mask with
  | nil => exact absurd hmem nofun
  | cons p rest =>
    have happlied : ((p :: rest).map (fun q => (s.product q).tolerance)).min? = some (s.tolerance (p :: rest)) :=
      List.min?_cons'
    have hsmallest : ((p :: rest).map (fun q => (s.product q).tolerance)).min? = some tol :=
      List.min?_eq_some_iff.mpr ⟨List.mem_map.mpr hmem, List.forall_mem_map.mpr hleast⟩
    exact Option.some.inj (happlied.symm.trans hsmallest)

/-! ### The short groups -/

/-- The figures that the shortfall test of a group uses. -/
def State.testFigures (s : State) (g : Nat) : Shortfall :=
  ⟨g, (s.dsp.group g).published, (s.tiu.group g).measured, (s.dsp.group g).mask, s.tolerance (s.dsp.group g).mask⟩

/-- A short group's entry is its test's figures. -/
theorem State.mem_shortGroups_iff (s : State) (x : Shortfall) :
    x ∈ s.shortGroups ↔ x.group < 64 ∧ s.examined x.group = true ∧ isShort x.published x.measured x.tolerance = true
      ∧ x = s.testFigures x.group := by
  simp only [State.shortGroups, List.mem_filterMap, List.mem_filter, List.mem_range, Option.ite_none_right_eq_some,
    Option.some.injEq]
  constructor
  · rintro ⟨g, ⟨hgroup, hexamined⟩, hshort, rfl⟩
    exact ⟨hgroup, hexamined, hshort, rfl⟩
  · rintro ⟨hgroup, hexamined, hshort, hfigures⟩
    rw [hfigures] at hshort
    exact ⟨x.group, ⟨hgroup, hexamined⟩, hshort, hfigures.symm⟩

theorem State.exists_shortGroup_iff (s : State) {g : Nat} (hgroup : g < 64) :
    (∃ x ∈ s.shortGroups, x.group = g) ↔ s.examined g = true
      ∧ isShort (s.dsp.group g).published (s.tiu.group g).measured (s.tolerance (s.dsp.group g).mask) = true := by
  simp only [State.mem_shortGroups_iff]
  constructor
  · rintro ⟨x, ⟨-, hexamined, hshort, hfigures⟩, rfl⟩
    rw [hfigures] at hshort
    exact ⟨hexamined, hshort⟩
  · rintro ⟨hexamined, hshort⟩
    exact ⟨s.testFigures g, ⟨hgroup, hexamined, hshort, rfl⟩, rfl⟩

/-- Settles O45, from the members of the short groups, the condition of examination, the test and its tolerance. -/
theorem shortGroupsFailTheTest : Obligations.ShortGroupsFailTheTest := by
  intro s g hgroup
  refine ⟨fun x hx hg => ?entry, fun hexamined tol hmem hleast => ?test, fun table => rfl⟩
  case entry =>
    obtain ⟨-, hexamined, -, hfigures⟩ := (s.mem_shortGroups_iff x).mp hx
    subst hg
    exact ⟨(s.examined_iff x.group).mp hexamined, congrArg Shortfall.published hfigures,
      congrArg Shortfall.measured hfigures, congrArg Shortfall.mask hfigures⟩
  case test =>
    have htol := s.tolerance_eq hmem hleast
    refine ⟨?_, fun x hx hg => ?_⟩
    · rw [s.exists_shortGroup_iff hgroup, htol, isShort_iff]
      exact and_iff_right ((s.examined_iff g).mpr hexamined)
    · obtain ⟨-, -, -, hfigures⟩ := (s.mem_shortGroups_iff x).mp hx
      rw [congrArg Shortfall.tolerance hfigures, hg]
      exact htol

end Sys2Proof.Machine
end

section
/-! PROOFS. What the operations of the Book leave of the state, and what the work of a request can do: one inversion for the
requests that the engine works and one for those worked on acceptance (TABLE 6(a)). -/
namespace Sys2Proof.Machine

/-! ### Rescans and loads write the Grid and the notices of a deficit -/

@[simp] theorem State.rescan_frame (s : State) (scope : List (Nat × Nat)) :
    (s.rescan scope).supply = s.supply ∧ (s.rescan scope).cause = s.cause ∧ (s.rescan scope).mtu = s.mtu
    ∧ (s.rescan scope).frg = s.frg ∧ (s.rescan scope).tiu = s.tiu ∧ (s.rescan scope).eng = s.eng
    ∧ (s.rescan scope).cmt = s.cmt ∧ (s.rescan scope).acu = s.acu ∧ (s.rescan scope).dsp = s.dsp
    ∧ (s.rescan scope).dvu = s.dvu ∧ (s.rescan scope).pending = s.pending ∧ (s.rescan scope).cgr.ring = s.cgr.ring := by
  unfold State.rescan State.fullScan State.scopeRescan
  split
  · simp
  · split <;> simp

@[simp] theorem State.rescanAll_frame (s : State) :
    s.rescanAll.supply = s.supply ∧ s.rescanAll.cause = s.cause ∧ s.rescanAll.mtu = s.mtu
    ∧ s.rescanAll.frg = s.frg ∧ s.rescanAll.tiu = s.tiu ∧ s.rescanAll.eng = s.eng
    ∧ s.rescanAll.cmt = s.cmt ∧ s.rescanAll.acu = s.acu ∧ s.rescanAll.dsp = s.dsp
    ∧ s.rescanAll.dvu = s.dvu ∧ s.rescanAll.pending = s.pending ∧ s.rescanAll.cgr.ring = s.cgr.ring :=
  s.rescan_frame _

@[simp] theorem State.changeLoads_frame (s : State) (first count : Nat) (l : List Share) (f : Share → Quad)
    (op : Quad → Quad → Quad) :
    (s.changeLoads first count l f op).supply = s.supply ∧ (s.changeLoads first count l f op).cause = s.cause
    ∧ (s.changeLoads first count l f op).mtu = s.mtu ∧ (s.changeLoads first count l f op).frg = s.frg
    ∧ (s.changeLoads first count l f op).tiu = s.tiu ∧ (s.changeLoads first count l f op).eng = s.eng
    ∧ (s.changeLoads first count l f op).cmt = s.cmt ∧ (s.changeLoads first count l f op).acu = s.acu
    ∧ (s.changeLoads first count l f op).dsp = s.dsp ∧ (s.changeLoads first count l f op).dvu = s.dvu
    ∧ (s.changeLoads first count l f op).pending = s.pending :=
  ⟨rfl, rfl, rfl, rfl, rfl, rfl, rfl, rfl, rfl, rfl, rfl⟩

@[simp] theorem State.addLoads_frame (s : State) (r : Commitment) :
    (s.addLoads r).supply = s.supply ∧ (s.addLoads r).cause = s.cause ∧ (s.addLoads r).mtu = s.mtu
    ∧ (s.addLoads r).frg = s.frg ∧ (s.addLoads r).tiu = s.tiu ∧ (s.addLoads r).eng = s.eng
    ∧ (s.addLoads r).cmt = s.cmt ∧ (s.addLoads r).acu = s.acu ∧ (s.addLoads r).dsp = s.dsp ∧ (s.addLoads r).dvu = s.dvu
    ∧ (s.addLoads r).pending = s.pending := s.changeLoads_frame _ _ _ _ _

@[simp] theorem State.subtractLoads_frame (s : State) (r : Commitment) :
    (s.subtractLoads r).supply = s.supply ∧ (s.subtractLoads r).cause = s.cause ∧ (s.subtractLoads r).mtu = s.mtu
    ∧ (s.subtractLoads r).frg = s.frg ∧ (s.subtractLoads r).tiu = s.tiu ∧ (s.subtractLoads r).eng = s.eng
    ∧ (s.subtractLoads r).cmt = s.cmt ∧ (s.subtractLoads r).acu = s.acu ∧ (s.subtractLoads r).dsp = s.dsp
    ∧ (s.subtractLoads r).dvu = s.dvu ∧ (s.subtractLoads r).pending = s.pending := s.changeLoads_frame _ _ _ _ _

@[simp] theorem State.dropCommitment_frame (s : State) (r : Commitment) :
    (s.dropCommitment r).supply = s.supply ∧ (s.dropCommitment r).cause = s.cause ∧ (s.dropCommitment r).mtu = s.mtu
    ∧ (s.dropCommitment r).frg = s.frg ∧ (s.dropCommitment r).tiu = s.tiu ∧ (s.dropCommitment r).eng = s.eng
    ∧ (s.dropCommitment r).cmt = s.cmt.remove r.id ∧ (s.dropCommitment r).acu = s.acu ∧ (s.dropCommitment r).dsp = s.dsp
    ∧ (s.dropCommitment r).dvu = s.dvu ∧ (s.dropCommitment r).pending = s.pending
    ∧ (s.dropCommitment r).cgr.ring = (s.subtractLoads r).cgr.ring := by
  simp [State.dropCommitment]

/-! ### The records that numbers name -/

theorem Commitments.record_mem {c : Commitments} {i : Nat} {r : Commitment} (h : c.record i = some r) :
    r ∈ c.records ∧ r.id = i :=
  ⟨List.mem_of_find?_eq_some h, by simpa using List.find?_some h⟩

theorem Commitments.named_eq_some {c : Commitments} {i : Nat} {issue : Byte} {r : Commitment} (h : c.named i issue = some r) :
    i ≤ 511 ∧ c.record i = some r ∧ r.issue = issue := by
  unfold Commitments.named at h
  split at h
  · cases h
  · split at h
    · split at h
      · cases h
        exact ⟨by omega, ‹_›, ‹_›⟩
      · cases h
    · cases h

theorem Acu.record_mem {a : Acu} {p : Nat} {r : Activation} (h : a.record p = some r) : r ∈ a.records ∧ r.product = p :=
  ⟨List.mem_of_find?_eq_some h, by simpa using List.find?_some h⟩

/-! ### What a request that the engine works can do -/

/-- The state after the work of a request of the classes ACTIVATION, FLEET and BOOK: nothing but the reply, or one of the
writes that an accepted request makes, with the checks that let it pass. -/
inductive Worked (s : State) : State → Prop
  | nothing : Worked s s
  | ordered (p : Nat) (x : Int) (o : ActOrigin) (r : Activation) (res : OrderResult) (hp : p ≤ 7)
      (hf : (s.product p).direction.clamp x ≠ 0)
      (h : s.acu.retarget p ((s.product p).direction.clamp x) o = some (r, res)) :
      Worked s { s with acu := s.acu.put r }
  | ended (p : Nat) (r : Activation) (h : s.acu.record p = some r) :
      Worked s { s with acu := s.acu.put r.deactivated.1 }
  | forecasts (g i : Nat) (l : List ForecastArgs) :
      Worked s (State.rescan { s with cgr := s.cgr.writeForecasts g i l } ((List.range' i l.length).map (fun k => (k, g))))
  | site (i : Nat) (x : SiteReg) :
      Worked s (State.raiseRollup { s with frg := { s.frg with sites := Table.set {} s.frg.sites i x } })
  | group (g : Nat) (x : GroupReg) (h : x.zone = (s.frg.group g).zone ∨ s.inUse g = false) :
      Worked s (State.raiseRollup { s with frg := { s.frg with groups := Table.set {} s.frg.groups g x } })
  | curve (k : Nat) (v : List Nat) :
      Worked s (State.raiseRollup { s with frg := { s.frg with curves := Table.set flatCurve s.frg.curves k v } })
  | dropped (r : Commitment) (h : s.cmt.record r.id = some r) (hst : r.state ≠ .settling) : Worked s (s.dropCommitment r)
  | awarded (r : Commitment) (q : Nat) (h : s.cmt.record r.id = some r) (hst : r.state = .held)
      (hgate : s.gateStatus r.first = .open) (hq : q ≠ 0) (hle : q ≤ r.quantity)
      (hadm : (s.product r.product).admits q) :
      Worked s (State.rescan { s.changeLoads r.first r.count r.shares (awardDrop (s.product r.product) (r.reduced q)) Quad.sub
        with cmt := s.cmt.replace (r.reduced q) } (s.sharePairs r.first r.count r.shares))
  | product (a : ProductArgs) (hp : a.product.toNat ≤ 7) (href : s.referenced a.product.toNat = false)
      (hr : productInRange a = true) :
      Worked s { s with cmt := { s.cmt with products := Table.set {} s.cmt.products a.product.toNat (productRecord a) } }
  | settings (a : MarketArgs) (h : configureMarketCheck a s = none) :
      Worked s { s with eng := { s.eng with settings := marketSettings a } }
  | rescanned (a : MarketArgs) (h : configureMarketCheck a s = none) :
      Worked s (State.rescanAll { s with eng := { s.eng with settings := marketSettings a } })
  | settlements : Worked s (readSettlementWork s).1

theorem State.deactivateProduct_worked (s : State) (p : Nat) : Worked s (s.deactivateProduct p).1 := by
  unfold State.deactivateProduct
  split
  · exact .nothing
  · exact .ended p _ ‹_›

theorem State.orderCheck_eq_none {s : State} {p : Nat} (h : s.orderCheck p = none) :
    p ≤ 7 ∧ (s.product p).enabled = true ∧ s.awardedNow p = true := by
  unfold State.orderCheck at h
  split at h
  · cases h
  · split at h
    · cases h
    · split at h
      · cases h
      · simp_all

theorem activateWork_worked (a : ActivateArgs) (s : State) : Worked s (activateWork a s).1 := by
  unfold activateWork
  dsimp only
  split
  · exact .nothing
  · have hp := (State.orderCheck_eq_none ‹_›).1
    split
    · exact s.deactivateProduct_worked _
    · split
      · exact .nothing
      · exact .ordered _ _ _ _ _ hp ‹_› ‹_›

theorem deactivateWork_worked (p : Byte) (s : State) : Worked s (deactivateWork p s).1 := by
  unfold deactivateWork
  split
  · exact .nothing
  · exact s.deactivateProduct_worked _

theorem groupSetWork_worked (a : GroupArgs) (s : State) : Worked s (groupSetWork a s).1 := by
  unfold groupSetWork
  dsimp only
  split
  · exact .nothing
  · split
    · exact .nothing
    · split
      · exact .nothing
      · split
        · exact .nothing
        · exact .group _ _ (by simp_all; tauto)

theorem awardWork_worked (a : AwardArgs) (s : State) : Worked s (awardWork a s).1 := by
  unfold awardWork
  split
  · exact .nothing
  · rename_i r hnamed
    obtain ⟨-, hrec, -⟩ := Commitments.named_eq_some hnamed
    have hrec' : s.cmt.record r.id = some r := by rw [(Commitments.record_mem hrec).2]; exact hrec
    split
    · exact .nothing
    · rename_i hcheck
      have hst : r.state = .held ∧ s.gateStatus r.first = .open := by
        unfold awardCheck at hcheck
        split at hcheck
        · cases hcheck
        · split at hcheck
          · cases hcheck
          · split at hcheck
            · cases hcheck
            · simp_all
      dsimp only
      split
      · exact .dropped r hrec' (by simp [hst.1])
      · split
        · exact .nothing
        · rename_i hq hfit
          exact .awarded r _ hrec' hst.1 hst.2 hq (by omega) ⟨by omega, by omega⟩

theorem releaseWork_worked (a : ReleaseArgs) (s : State) : Worked s (releaseWork a s).1 := by
  unfold releaseWork
  split
  · exact .nothing
  · rename_i r hnamed
    obtain ⟨-, hrec, -⟩ := Commitments.named_eq_some hnamed
    have hrec' : s.cmt.record r.id = some r := by rw [(Commitments.record_mem hrec).2]; exact hrec
    split
    · exact .nothing
    · exact .dropped r hrec' (by simp_all)
    · split
      · exact .nothing
      · split
        · exact .nothing
        · exact .dropped r hrec' (by simp_all)

theorem productSetWork_worked (a : ProductArgs) (s : State) : Worked s (productSetWork a s).1 := by
  unfold productSetWork
  dsimp only
  split
  · exact .nothing
  · split
    · exact .nothing
    · split
      · exact .nothing
      · exact .product a (by omega) (by simp_all) (by simp_all)

theorem configureMarketWork_worked (a : MarketArgs) (s : State) : Worked s (configureMarketWork a s).1 := by
  unfold configureMarketWork
  split
  · exact .nothing
  · dsimp only
    split
    · exact .rescanned a ‹_›
    · exact .settings a ‹_›

theorem forecastWork_worked (a : ForecastBody) (s : State) : Worked s (forecastWork a s).1 := by
  unfold forecastWork
  split
  · exact .nothing
  · exact .forecasts _ _ _

theorem siteSetWork_worked (a : SiteArgs) (s : State) : Worked s (siteSetWork a s).1 := by
  unfold siteSetWork
  split
  · exact .nothing
  · split
    · exact .nothing
    · exact .site _ _

theorem curveSetWork_worked (a : CurveArgs) (s : State) : Worked s (curveSetWork a s).1 := by
  unfold curveSetWork
  split
  · exact .nothing
  · split
    · exact .nothing
    · exact .curve _ _

/-! ### The readings that the engine works -/

@[simp] theorem productReadWork_state (p : Byte) (s : State) : (productReadWork p s).1 = s := by
  unfold productReadWork
  split <;> rfl

@[simp] theorem readCommitmentWork_state (i : Half) (s : State) : (readCommitmentWork i s).1 = s := by
  unfold readCommitmentWork
  split
  · rfl
  · split <;> rfl

@[simp] theorem listCommitmentsWork_state (a : ListArgs) (s : State) : (listCommitmentsWork a s).1 = s := by
  unfold listCommitmentsWork
  split <;> rfl

@[simp] theorem readDeficitsWork_state (p : Byte) (s : State) : (readDeficitsWork p s).1 = s := by
  unfold readDeficitsWork
  split <;> rfl

@[simp] theorem readGroupWork_state (g : Byte) (s : State) : (readGroupWork g s).1 = s := by
  unfold readGroupWork
  dsimp only
  split <;> rfl

@[simp] theorem refuse_state (s : State) (c : Status) : (refuse s c).1 = s := rfl

/-- Every request's work is one of the writes of `Worked`. -/
theorem requestWork_worked (r : Request) (s : State) : Worked s (requestWork r s).1 := by
  have reading {t : State} (h : t = s) : Worked s t := h ▸ .nothing
  cases r
  case activate => exact activateWork_worked _ s
  case deactivate => exact deactivateWork_worked _ s
  case forecast => exact forecastWork_worked _ s
  case groupSet => exact groupSetWork_worked _ s
  case award => exact awardWork_worked _ s
  case release => exact releaseWork_worked _ s
  case productSet => exact productSetWork_worked _ s
  case configureMarket => exact configureMarketWork_worked _ s
  case siteSet => exact siteSetWork_worked _ s
  case curveSet => exact curveSetWork_worked _ s
  case readSettlement => exact .settlements
  case productRead => exact reading (productReadWork_state _ s)
  case readCommitment => exact reading (readCommitmentWork_state _ s)
  case listCommitments => exact reading (listCommitmentsWork_state _ s)
  case readDeficits => exact reading (readDeficitsWork_state _ s)
  case readGroup => exact reading (readGroupWork_state _ s)
  all_goals exact .nothing

/-- The parts of the state that no such work writes. -/
theorem Worked.frame {s t : State} (h : Worked s t) :
    t.supply = s.supply ∧ t.cause = s.cause ∧ t.mtu = s.mtu ∧ t.tiu = s.tiu ∧ t.dsp = s.dsp ∧ t.dvu = s.dvu
    ∧ t.pending = s.pending ∧ t.eng = { s.eng with settings := t.eng.settings, rollup := t.eng.rollup } := by
  cases h <;> simp [State.raiseRollup, readSettlementWork]

/-! ### The commit of an ADMISSION job -/

/-- The state after an ADMISSION job's commit: nothing but the reply, or the HELD record with its loads, whose shares are those
that the computing phase left in the scratch. -/
inductive Committed (r : Running) (s : State) : State → Prop
  | nothing : Committed r s s
  | held (a : HoldArgs) (x : Scratch) (id : Nat) (hreq : r.entry.request = .hold a)
      (hx : s.eng.scratch = some x) (hok : x.refusal = none)
      (hgate : s.mtu.clock + s.eng.settings.lead < a.first.toNat) (hid : s.cmt.lowestEligible = some id) :
      Committed r s (State.addLoads { s with cmt := s.cmt.place (heldRecord a id (s.cmt.issue id) x.shares) }
        (heldRecord a id (s.cmt.issue id) x.shares))

theorem admissionWork_committed (r : Running) (s : State) : Committed r s (admissionWork r.entry.request s).1 := by
  unfold admissionWork
  split
  · rename_i a x hreq hx
    simp only [holdCommit]
    split
    · exact .nothing
    · exact .nothing
    · split
      · exact .nothing
      · split
        · exact .nothing
        · split
          · exact .nothing
          · rename_i hok _ hgate _ id hid
            exact .held a x id hreq hx hok (Nat.lt_of_not_le hgate) hid
  · unfold queryCommit
    split <;> exact .nothing
  · exact .nothing

theorem Committed.frame {r : Running} {s t : State} (h : Committed r s t) :
    t.supply = s.supply ∧ t.cause = s.cause ∧ t.mtu = s.mtu ∧ t.frg = s.frg ∧ t.tiu = s.tiu ∧ t.eng = s.eng ∧ t.acu = s.acu
    ∧ t.dsp = s.dsp ∧ t.dvu = s.dvu ∧ t.pending = s.pending := by
  cases h <;> simp

/-! ### What a request worked on acceptance can do -/

/-- The state after the work of a request that its block takes on acceptance. -/
inductive Taken (s : State) : State → Prop
  | nothing : Taken s s
  | calendar (n sec : Nat) (h : timeSetCheck n sec s = none) :
      Taken s (State.enterTimeState { s with mtu := { s.mtu with
        calendar := some ⟨n, sec, s.mtu.timeState == .failed⟩ } } .acquiring)
  | reports (l : List Report) :
      Taken s (State.raiseRollup { s with tiu := l.foldl (fun t r => t.store s.mtu.runSeconds r) s.tiu })
  | fleetSettings (l p : Nat) : Taken s { s with tiu := { s.tiu with staleLimit := l, rollupPeriod := p } }
  | staleLimit (l p : Nat) :
      Taken s (State.raiseRollup { s with tiu := { s.tiu with staleLimit := l, rollupPeriod := p } })
  | armed (l : Line) (p : Option Nat) :
      Taken s { s with acu := s.acu.withLine l { s.acu.line l with armed := p } }
  | gridSettings (g q : Nat) : Taken s { s with acu := { s.acu with guardTicks := g, qualification := q } }
  | changes : Taken s { s with dsp := { s.dsp with dirty := s.dsp.dirty.drop 32 } }
  | cleared : Taken s { s with dvu := {} }
  | notices (p : Port) : Taken s (s.withPort p { s.port p with notices := [] })
  | attention (p : Port) (m : BitVec 12) (t : Nat) : Taken s (s.withPort p { s.port p with mask := m, threshold := t })

theorem acceptedWork_taken {p : Port} {r : Request} {s : State} {a : Answer} (h : acceptedWork p r s = some a) :
    Taken s a.1 := by
  cases r <;> cases h
  case timeSet =>
    unfold timeSetWork
    split
    · exact .nothing
    · exact .calendar _ _ ‹_›
  case armTrip =>
    unfold armTripWork
    split
    · exact .nothing
    · split
      · exact .armed _ _
      · split
        · exact .nothing
        · split
          · exact .nothing
          · exact .armed _ _
  case configureGrid => exact .gridSettings _ _
  case readActivations => exact .nothing
  case readCapture => exact .nothing
  case clearCapture => exact .cleared
  case telemetry => exact .reports _
  case configureFleet =>
    simp only [configureFleetWork]
    split
    · exact .staleLimit _ _
    · exact .fleetSettings _ _
  case setpointChanges => exact .changes
  case readSetpoints =>
    unfold readSetpointsWork
    dsimp only
    split <;> exact .nothing
  case readStatus => exact .nothing
  case readNotices => exact .notices p
  case setAttention => exact .attention p _ _

end Sys2Proof.Machine
end

section
/-! PROOFS. The elementary events that commands are made of (log 3 to 5): every command but RESET_RELEASE is a run of them, so
what each event keeps every step keeps. -/
namespace Sys2Proof.Machine

/-! ### Elementary events -/

/-- One indivisible change of the state, as some command makes it. Whether the part runs is left open: what an event keeps, it
keeps in and out of reset. -/
inductive Event (s : State) : State → Prop
  | reset (c : ResetCause) : Event s (s.beginReset c)
  | powerFail : Event s s.losePower
  | level (l : Line) (b : Bool) : Event s (s.setLevel l b)
  | ignored (p : Port) : Event s (s.withPort p { s.port p with miso := .dontCare })
  | tick : Event s s.tick
  | pulse : Event s s.ppsPulse
  | rise (l : Line) : Event s (s.assertLine l)
  | fall (l : Line) : Event s (s.deassertLine l)
  | discard (p : Port) : Event s (s.withPort p { (s.port p).newTransfer with lastWriteRefused := true })
  | take (p : Port) (k : Nat) (bytes : List Byte) : Event s (s.withPort p ((s.port p).takeSlot k bytes))
  | reply (p : Port) (r : Reply) : Event s (s.complete p r)
  | accepted {t : State} (h : Taken s t) : Event s t
  | join (x : Entry) : Event s (s.enqueue x)
  | read (p : Port) (part : ReadPart) : Event s (s.withPort p ((s.port p).readTransfer part))
  | link (p : Port) : Event s (s.linkReset p)
  | work (r : Running) (hjob : s.eng.job = some (.order r) ∨ s.eng.job = some (.fleet r) ∨ s.eng.job = some (.book r))
      {t : State} (h : Worked s t) : Event s t
  | commit (r : Running) (hjob : s.eng.job = some (.admission r)) {t : State} (h : Committed r s t) : Event s t
  | trip (e : TripEvent) (hjob : s.eng.job = some (.trip e)) : Event s (tripWork e s)
  | dispatch (f : List (Nat × Int)) (g : List Nat) (hjob : s.eng.job = some (.dispatch f g)) : Event s (s.dispatchCommit f g)
  | rollover (st st' : RolloverStage) (hjob : s.eng.job = some (.rollover st)) (h : (s.rolloverEvent st).2 = some st') :
      Event s ((s.rolloverEvent st).1.continueWith (some (.rollover st')))
  | rolloverLast (b : Nat) (hjob : s.eng.job = some (.rollover .between)) (hb : s.eng.bookInterval = some b)
      (h : s.mtu.clock ≤ b) : Event s { s with eng := { s.eng with housekeeping := s.eng.housekeeping.folded } }
  | rollup (st st' : RollupStage) (hjob : s.eng.job = some (.rollup st)) (h : (s.rollupEvent st).2 = some st') :
      Event s ((s.rollupEvent st).1.continueWith (some (.rollup st')))
  | rollupLast (hjob : s.eng.job = some (.rollup .trigger)) : Event s (s.raiseDispatchIf s.dsp.active)
  | endJob (h : ∀ st, s.eng.job = some (.rollover st) → st = .between) : Event s s.endJob
  | choose : Event s s.choose

/-- A run of elementary events. -/
abbrev Events : State → State → Prop := Relation.ReflTransGen Event

/-- What every event keeps, every run of events keeps. -/
theorem Events.keep {P : State → Prop} (h : ∀ s t, P s → Event s t → P t) {s t : State} (run : Events s t) (hs : P s) :
    P t := by
  induction run with
  | refl => exact hs
  | tail _ e ih => exact h _ _ ih e

theorem Event.run {s t : State} (e : Event s t) : Events s t := .single e

/-! ### Transfers and requests presented are runs of events -/

theorem State.accept_events (s : State) (p : Port) (k : Nat) (tag : Byte) (r : Request) : Events s (s.accept p k tag r) := by
  unfold State.accept
  split
  · exact (Event.accepted (acceptedWork_taken ‹_›)).run.tail (.reply _ _)
  · exact (Event.join _).run

theorem State.write_events (s : State) (p : Port) (bytes : List Byte) : Events s (s.write p bytes) := by
  unfold State.write
  split
  · exact (Event.discard p).run
  · rename_i k _
    refine .head (.take p k bytes) ?_
    dsimp only
    split
    · exact State.accept_events _ _ _ _ _
    · exact (Event.reply _ _).run

theorem State.act_events {s : State} {f : State → State} (h : Events s (f s)) : Events s (s.act f) := by
  unfold State.act
  split
  · exact h.tail .choose
  · exact .refl
  · exact .refl

theorem State.transfer_events {s : State} {f : State → State} (p : Port) (h : Events s (f s)) : Events s (s.transfer p f) := by
  unfold State.transfer
  split
  · exact h.tail .choose
  · exact (Event.ignored p).run
  · exact .refl

/-! ### The job in progress -/

theorem State.endRequest_events {s : State} (r : Running) (a : Answer) (h : Events s a.1)
    (hjob : ∀ st, a.1.eng.job = some (.rollover st) → st = .between) : Events s (State.endRequest r a) := by
  unfold State.endRequest
  split
  · exact h.tail (.endJob hjob)
  · exact (h.tail (.reply _ _)).tail (.endJob (by simpa using hjob))

theorem Worked.job {s t : State} (h : Worked s t) : t.eng.job = s.eng.job := by
  rw [h.frame.2.2.2.2.2.2.2]

/-- A job but ROLLOVER goes to its end without a boundary's stage in between. -/
theorem between_of_job {s : State} {j : Job} (h : s.eng.job = some j) (hj : ∀ st, j ≠ .rollover st) :
    ∀ st, s.eng.job = some (.rollover st) → st = .between := by
  intro st hst
  exact absurd (Option.some.inj (h.symm.trans hst)) (hj st)

/-- The work of a request in progress, to its reply. -/
theorem State.requestWork_events {s : State} {r : Running}
    (hjob : s.eng.job = some (.order r) ∨ s.eng.job = some (.fleet r) ∨ s.eng.job = some (.book r)) :
    Events s (State.endRequest r (requestWork r.entry.request s)) := by
  have hw := requestWork_worked r.entry.request s
  refine State.endRequest_events r _ ((Event.work r hjob hw).run) ?_
  rw [hw.job]
  rcases hjob with h | h | h <;> exact between_of_job h nofun

/-- A ROLLOVER job ends only at the test between boundaries, with b at or past c; a set trigger is cleared (R86). -/
theorem State.rolloverEvent_ends {s : State} {st : RolloverStage} (h : (s.rolloverEvent st).2 = none) :
    st = .between ∧ ∃ b, s.eng.bookInterval = some b ∧ s.mtu.clock ≤ b
      ∧ (s.rolloverEvent st).1 = { s with eng := { s.eng with housekeeping := s.eng.housekeeping.folded } } := by
  unfold State.rolloverEvent at h ⊢
  split at h
  case h_2 hb =>
    split at h
    · cases h
    · rename_i hlt
      exact ⟨rfl, _, hb, Nat.le_of_not_lt hlt, by simp only [hb, if_neg hlt]⟩
  all_goals cases h

theorem State.rollupEvent_ends {s : State} {st : RollupStage} (h : (s.rollupEvent st).2 = none) : st = .trigger := by
  cases st with
  | trigger => rfl
  | _ => cases h

theorem State.rolloverEvent_events {s : State} {st : RolloverStage} (hjob : s.eng.job = some (.rollover st)) :
    Events s ((s.rolloverEvent st).1.continueWith ((s.rolloverEvent st).2.map .rollover)) := by
  cases h : (s.rolloverEvent st).2 with
  | some st' => exact (Event.rollover st st' hjob h).run
  | none =>
    obtain ⟨rfl, b, hb, hle, hfold⟩ := State.rolloverEvent_ends h
    rw [hfold]
    exact (Event.rolloverLast b hjob hb hle).run.tail (.endJob (by simp [hjob]))

@[simp] theorem State.raiseDispatchIf_job {s : State} {j : Job} (b : Bool) (hjob : s.eng.job = some j)
    (hj : ∀ r, j ≠ .admission r) : (s.raiseDispatchIf b).eng.job = some j := by
  cases b
  · exact hjob
  · have hgone : (s.raiseDispatchIf true).eng = { s.eng with dispatch := s.eng.dispatch.raised } :=
      Engine.abandoned_of_held _ (by cases j <;> simp_all [Engine.held])
    rw [hgone]
    exact hjob

theorem State.rollupEvent_events {s : State} {st : RollupStage} (hjob : s.eng.job = some (.rollup st)) :
    Events s ((s.rollupEvent st).1.continueWith ((s.rollupEvent st).2.map .rollup)) := by
  cases h : (s.rollupEvent st).2 with
  | some st' => exact (Event.rollup st st' hjob h).run
  | none =>
    cases State.rollupEvent_ends h
    exact (Event.rollupLast hjob).run.tail (.endJob (between_of_job (State.raiseDispatchIf_job _ hjob nofun) nofun))

@[simp] theorem State.dispatchCommit_eng (s : State) (f : List (Nat × Int)) (g : List Nat) :
    (s.dispatchCommit f g).eng = s.eng := by
  simp [State.dispatchCommit]

@[simp] theorem tripWork_eng (e : TripEvent) (s : State) : (tripWork e s).eng = s.eng := rfl

theorem State.jobEvent_events (s : State) : Events s s.jobEvent := by
  unfold State.jobEvent
  split
  · exact .refl
  · exact State.requestWork_events (.inl ‹_›)
  · rename_i e h
    exact (Event.trip e h).run.tail (.endJob (between_of_job h nofun))
  · rename_i f g h
    exact (Event.dispatch f g h).run.tail (.endJob (between_of_job (j := .dispatch f g) (by simpa using h) nofun))
  · exact State.rolloverEvent_events ‹_›
  · exact State.rollupEvent_events ‹_›
  · exact State.requestWork_events (.inr (.inl ‹_›))
  · exact State.requestWork_events (.inr (.inr ‹_›))
  · rename_i r h
    have hc := admissionWork_committed r s
    refine State.endRequest_events r _ (Event.commit r h hc).run ?_
    rw [hc.frame.2.2.2.2.2.1]
    exact between_of_job h nofun

theorem State.jobEvents_events (n : Nat) (s : State) : Events s (s.jobEvents n) := by
  induction n generalizing s with
  | zero => exact .refl
  | succ n ih =>
    unfold State.jobEvents
    split
    · exact .refl
    · exact s.jobEvent_events.trans (ih _)

theorem State.advance_events (s : State) (x : Extent) : Events s (s.advance x) := by
  cases x
  · exact s.jobEvents_events _
  · exact s.jobEvent_events

theorem State.jobRow_events {α : Type} (s : State) (kind : Byte) (make : α → Request) (f : JobForm α) :
    Events s (s.jobRow kind make f) := by
  cases f with
  | request p tag a =>
    have htransfer : Events s (s.transfer p (fun s => s.present p tag (make a))) :=
      State.transfer_events p (s.write_events p _)
    unfold State.jobRow
    dsimp only
    split
    · exact htransfer.trans (State.act_events (State.jobEvents_events _ _))
    · exact htransfer
  | job =>
    refine State.act_events ?_
    split
    · exact s.jobEvents_events _
    · exact .refl

/-! ### Commands -/

/-- A row whose job may not be the one in progress (log 4). -/
theorem State.actIf_events {s : State} {b : State → Bool} {f : State → State} (h : Events s (f s)) :
    Events s (s.act (fun s => if b s then f s else s)) := by
  refine State.act_events ?_
  split
  · exact h
  · exact .refl

theorem State.tickIf_events (s : State) (due : Bool) : Events s (s.tickIf due) := by
  unfold State.tickIf
  split
  · exact State.act_events Event.tick.run
  · exact .refl

/-- Every command but RESET_RELEASE is a run of elementary events. -/
theorem exec_events {i : Instr} {s t : State} (hi : i ≠ .resetRelease) (h : exec i s = .next t) : Events s t := by
  cases i <;> simp only [exec] at h
  case resetRelease => exact absurd rfl hi
  case deviceReset c => cases h; exact (Event.reset c).run
  case powerFail => cases h; exact Event.powerFail.run
  case tickEvent => cases h; exact State.act_events Event.tick.run
  case ppsPulse => cases h; exact State.act_events Event.pulse.run
  case tripLineAssert l =>
    unfold execTripLineAssert at h
    split at h <;> cases h
    · exact State.act_events (Event.rise l).run
    · exact (Event.level l _).run
    · exact (Event.level l _).run
  case tripLineDeassert l =>
    unfold execTripLineDeassert at h
    split at h <;> cases h
    · exact State.act_events (Event.fall l).run
    · exact (Event.level l _).run
    · exact (Event.level l _).run
  case tripQualified l =>
    unfold execTripQualified at h
    split at h
    · cases h; exact State.act_events Event.tick.run
    · split at h <;> cases h
      · exact State.act_events (Event.rise l).run
      · exact .refl
  case write p bytes => cases h; exact State.transfer_events p (s.write_events p bytes)
  case read p part => cases h; exact State.transfer_events p (Event.read p part).run
  case linkReset p => cases h; exact State.transfer_events p (Event.link p).run
  case tripJob => cases h; exact State.actIf_events (s.jobEvents_events _)
  case rollover x => cases h; exact State.actIf_events (s.advance_events x)
  case rollup x => cases h; exact State.actIf_events (s.advance_events x)
  case dispatch => cases h; exact State.actIf_events (s.jobEvents_events _)
  case secondMark | boundaryEvent | missingPulse | holdoverToFailed | rollupPeriodExpiry | sustainLimit | guardEnd =>
    cases h; exact s.tickIf_events _
  case timeSet p _ _ _ | armTrip p _ _ _ | configureGrid p _ _ _ | readActivations p _ | readCapture p _ | clearCapture p _
      | telemetry p _ _ | configureFleet p _ _ _ | setpointChanges p _ | readSetpoints p _ _ _ | readStatus p _
      | readNotices p _ | setAttention p _ _ _ =>
    cases h; exact State.transfer_events p (s.write_events p _)
  all_goals cases h; exact s.jobRow_events _ _ _

/-- A step is the release of a device reset, or a run of elementary events on the rest of the queue. -/
theorem step_events {s t : State} (h : step s = .next t) :
    (s.pending.head? = some .resetRelease ∧ t = State.release { s with pending := s.pending.tail })
    ∨ Events { s with pending := s.pending.tail } t := by
  unfold step at h
  split at h
  · rename_i hp
    cases h
    refine .inr ?_
    have hrest : { s with pending := s.pending.tail } = s := by
      cases s
      cases hp
      rfl
    rw [hrest]
  · rename_i i rest hp
    by_cases hi : i = .resetRelease
    · subst hi
      cases h
      exact .inl (by simp [hp])
    · simpa [hp] using .inr (exec_events hi h)

end Sys2Proof.Machine
end

section
/-! PROOFS. What arrivals, starts and the events of time and pins leave of the engine (6.3, 6.6). -/
namespace Sys2Proof.Machine

/-! ### An abandonment -/

/-- What an abandonment leaves of the engine: all but the job, its scratch, the ADMISSION class and the total. -/
@[simp] theorem Engine.abandoned_frame (e : Engine) :
    e.abandoned.activation = e.activation ∧ e.abandoned.activationMerges = e.activationMerges
    ∧ e.abandoned.dispatch = e.dispatch ∧ e.abandoned.housekeeping = e.housekeeping ∧ e.abandoned.rollup = e.rollup
    ∧ e.abandoned.fleet = e.fleet ∧ e.abandoned.book = e.book ∧ e.abandoned.bookInterval = e.bookInterval
    ∧ e.abandoned.settings = e.settings ∧ e.abandoned.copy = e.copy := by
  obtain h | ⟨r, -, -, h⟩ := e.abandoned_cases <;> simp [h]

/-- The engine after arrivals: b, the settings and the status copy stand, and so does the job with its scratch unless it is an
ADMISSION job that was abandoned. -/
structure Engine.Arrived (e e' : Engine) : Prop where
  bookInterval : e'.bookInterval = e.bookInterval
  settings : e'.settings = e.settings
  copy : e'.copy = e.copy
  job : (e'.job = e.job ∧ e'.scratch = e.scratch)
    ∨ (e'.job = none ∧ e'.scratch = none ∧ ∃ r, e.job = some (.admission r))

namespace Engine.Arrived

theorem refl (e : Engine) : e.Arrived e := ⟨rfl, rfl, rfl, .inl ⟨rfl, rfl⟩⟩

theorem trans {e₁ e₂ e₃ : Engine} (h : e₁.Arrived e₂) (h' : e₂.Arrived e₃) : e₁.Arrived e₃ where
  bookInterval := h'.bookInterval.trans h.bookInterval
  settings := h'.settings.trans h.settings
  copy := h'.copy.trans h.copy
  job := by
    rcases h.job with ⟨hj, hs⟩ | ⟨hj, hs, hr⟩
    · rcases h'.job with ⟨hj', hs'⟩ | ⟨hj', hs', r, hr⟩
      · exact .inl ⟨hj'.trans hj, hs'.trans hs⟩
      · exact .inr ⟨hj', hs', r, hj ▸ hr⟩
    · rcases h'.job with ⟨hj', hs'⟩ | ⟨-, -, r, hr'⟩
      · exact .inr ⟨hj'.trans hj, hs'.trans hs, hr⟩
      · simp [hj] at hr'

theorem abandoned (e : Engine) : e.Arrived e.abandoned where
  bookInterval := by simp
  settings := by simp
  copy := by simp
  job := by
    obtain h | ⟨r, hr, -, h⟩ := e.abandoned_cases
    · exact .inl (by simp [h])
    · exact .inr ⟨by simp [h], by simp [h], r, hr⟩

/-- No arrival puts a job in progress. -/
theorem job_of_some {e e' : Engine} (h : e.Arrived e') {j : Job} (hj : e'.job = some j) :
    e.job = some j ∧ e'.scratch = e.scratch := by
  rcases h.job with ⟨hj', hs⟩ | ⟨hj', -, -⟩
  · exact ⟨hj' ▸ hj, hs⟩
  · simp [hj'] at hj

/-- A job that is no ADMISSION job stays. -/
theorem job_eq {e e' : Engine} (h : e.Arrived e') {j : Job} (hj : e.job = some j) (hno : ∀ r, j ≠ .admission r) :
    e'.job = some j := by
  rcases h.job with ⟨hj', -⟩ | ⟨-, -, r, hr⟩
  · exact hj'.trans hj
  · exact absurd (Option.some.inj (hj.symm.trans hr)) (hno r)

end Engine.Arrived

/-! ### Raises and arrivals -/

@[simp] theorem State.raiseDispatch_engine (s : State) :
    s.raiseDispatch.eng.housekeeping = s.eng.housekeeping ∧ s.raiseDispatch.eng.rollup = s.eng.rollup
    ∧ s.raiseDispatch.eng.dispatch = s.eng.dispatch.raised ∧ s.raiseDispatch.eng.activation = s.eng.activation
    ∧ s.raiseDispatch.eng.activationMerges = s.eng.activationMerges
    ∧ s.raiseDispatch.eng.fleet = s.eng.fleet ∧ s.raiseDispatch.eng.book = s.eng.book := by
  simp [State.raiseDispatch]

theorem State.raiseDispatch_arrived {e : Engine} {s : State} (h : e.Arrived s.eng) : e.Arrived s.raiseDispatch.eng :=
  h.trans (.trans (e₂ := { s.eng with dispatch := s.eng.dispatch.raised }) ⟨rfl, rfl, rfl, .inl ⟨rfl, rfl⟩⟩ (.abandoned _))

theorem State.raiseDispatchIf_arrived {e : Engine} {s : State} (b : Bool) (h : e.Arrived s.eng) :
    e.Arrived (s.raiseDispatchIf b).eng := by
  cases b
  · exact h
  · exact State.raiseDispatch_arrived h

@[simp] theorem State.raiseDispatchIf_engine (s : State) (b : Bool) :
    (s.raiseDispatchIf b).eng.housekeeping = s.eng.housekeeping ∧ (s.raiseDispatchIf b).eng.rollup = s.eng.rollup
    ∧ (s.raiseDispatchIf b).eng.dispatch = (if b then s.eng.dispatch.raised else s.eng.dispatch)
    ∧ (s.raiseDispatchIf b).eng.activation = s.eng.activation
    ∧ (s.raiseDispatchIf b).eng.activationMerges = s.eng.activationMerges
    ∧ (s.raiseDispatchIf b).eng.fleet = s.eng.fleet ∧ (s.raiseDispatchIf b).eng.book = s.eng.book := by
  cases b <;> simp [State.raiseDispatchIf]

@[simp] theorem State.joinActivation_engine (s : State) (a : ActEntry) :
    (s.joinActivation a).eng.housekeeping = s.eng.housekeeping ∧ (s.joinActivation a).eng.rollup = s.eng.rollup
    ∧ (s.joinActivation a).eng.dispatch = s.eng.dispatch
    ∧ (s.joinActivation a).eng.activation = s.eng.activation ++ [a]
    ∧ (s.joinActivation a).eng.activationMerges = s.eng.activationMerges
    ∧ (s.joinActivation a).eng.fleet = s.eng.fleet ∧ (s.joinActivation a).eng.book = s.eng.book := by
  simp [State.joinActivation]

theorem State.joinActivation_arrived {e : Engine} {s : State} (a : ActEntry) (h : e.Arrived s.eng) :
    e.Arrived (s.joinActivation a).eng :=
  h.trans (.trans (e₂ := { s.eng with activation := s.eng.activation ++ [a] }) ⟨rfl, rfl, rfl, .inl ⟨rfl, rfl⟩⟩
    (.abandoned _))

theorem State.enqueue_arrived (s : State) (x : Entry) : s.eng.Arrived (s.enqueue x).eng := by
  unfold State.enqueue
  split
  case h_1 | h_2 => exact State.joinActivation_arrived _ (.refl _)
  all_goals exact ⟨rfl, rfl, rfl, .inl ⟨rfl, rfl⟩⟩

@[simp] theorem State.enqueue_triggers (s : State) (x : Entry) :
    (s.enqueue x).eng.housekeeping = s.eng.housekeeping ∧ (s.enqueue x).eng.rollup = s.eng.rollup
    ∧ (s.enqueue x).eng.dispatch = s.eng.dispatch ∧ (s.enqueue x).eng.activationMerges = s.eng.activationMerges := by
  unfold State.enqueue
  split <;> simp

/-! ### Trips and lines -/

@[simp] theorem State.trip_triggers (s : State) (l : Line) (p : Nat) :
    (s.trip l p).eng.housekeeping = s.eng.housekeeping ∧ (s.trip l p).eng.rollup = s.eng.rollup
    ∧ (s.trip l p).eng.dispatch = s.eng.dispatch := by
  unfold State.trip
  split <;> simp

theorem State.trip_arrived {e : Engine} {s : State} (l : Line) (p : Nat) (h : e.Arrived s.eng) :
    e.Arrived (s.trip l p).eng := by
  unfold State.trip
  split
  · exact h.trans ⟨rfl, rfl, rfl, .inl ⟨rfl, rfl⟩⟩
  · exact State.joinActivation_arrived _ h

@[simp] theorem State.qualify_triggers (s : State) (l : Line) :
    (s.qualify l).eng.housekeeping = s.eng.housekeeping ∧ (s.qualify l).eng.rollup = s.eng.rollup
    ∧ (s.qualify l).eng.dispatch = s.eng.dispatch := by
  unfold State.qualify
  dsimp only
  split <;> simp

theorem State.qualify_arrived {e : Engine} {s : State} (l : Line) (h : e.Arrived s.eng) : e.Arrived (s.qualify l).eng := by
  unfold State.qualify
  dsimp only
  split
  · exact State.trip_arrived _ _ h
  · exact h

@[simp] theorem State.lineTick_triggers (s : State) (l : Line) :
    (s.lineTick l).eng.housekeeping = s.eng.housekeeping ∧ (s.lineTick l).eng.rollup = s.eng.rollup
    ∧ (s.lineTick l).eng.dispatch = s.eng.dispatch := by
  unfold State.lineTick
  dsimp only
  split
  · simp
  · split <;> simp

theorem State.lineTick_arrived {e : Engine} {s : State} (l : Line) (h : e.Arrived s.eng) : e.Arrived (s.lineTick l).eng := by
  unfold State.lineTick
  dsimp only
  split
  · exact State.qualify_arrived l h
  · split <;> exact h

theorem State.assertLine_arrived {e : Engine} {s : State} (l : Line) (h : e.Arrived s.eng) :
    e.Arrived (s.assertLine l).eng := by
  unfold State.assertLine
  dsimp only
  split
  · exact h
  · split
    · exact State.qualify_arrived l h
    · exact h

@[simp] theorem State.assertLine_frame (s : State) (l : Line) :
    (s.assertLine l).supply = s.supply ∧ (s.assertLine l).cause = s.cause ∧ (s.assertLine l).mtu = s.mtu
    ∧ (s.assertLine l).frg = s.frg ∧ (s.assertLine l).tiu = s.tiu ∧ (s.assertLine l).cgr = s.cgr
    ∧ (s.assertLine l).cmt = s.cmt ∧ (s.assertLine l).dsp = s.dsp ∧ (s.assertLine l).dvu = s.dvu
    ∧ (s.assertLine l).pending = s.pending
    ∧ (s.assertLine l).eng.housekeeping = s.eng.housekeeping ∧ (s.assertLine l).eng.rollup = s.eng.rollup
    ∧ (s.assertLine l).eng.dispatch = s.eng.dispatch := by
  unfold State.assertLine
  dsimp only
  split
  · simp
  · split <;> simp

@[simp] theorem State.assertLine_port (s : State) (l : Line) (p : Port) : (s.assertLine l).port p = s.port p := by
  unfold State.assertLine
  dsimp only
  split
  · rfl
  · split
    · rw [State.qualify_port]
      cases p <;> rfl
    · cases p <;> rfl

/-! ### A tick event -/

/-- Whether the tick event changes a fraction or removes a record (R135). -/
def State.rampChanges (s : State) : Bool :=
  s.acu.records.any (fun r => (r.tick (s.product r.product)).finished || decide ((r.tick (s.product r.product)).current ≠ r.current))

@[simp] theorem State.rampTick_engine (s : State) :
    s.rampTick.eng.housekeeping = s.eng.housekeeping ∧ s.rampTick.eng.rollup = s.eng.rollup
    ∧ s.rampTick.eng.dispatch = (if s.rampChanges then s.eng.dispatch.raised else s.eng.dispatch)
    ∧ s.rampTick.eng.activation = s.eng.activation ∧ s.rampTick.eng.activationMerges = s.eng.activationMerges
    ∧ s.rampTick.eng.fleet = s.eng.fleet ∧ s.rampTick.eng.book = s.eng.book := by
  simp [State.rampTick, State.rampChanges]

theorem State.rampTick_arrived {e : Engine} {s : State} (h : e.Arrived s.eng) : e.Arrived s.rampTick.eng := by
  unfold State.rampTick
  exact State.raiseDispatchIf_arrived _ (by simpa using h)

@[simp] theorem State.acuTick_triggers (s : State) :
    s.acuTick.eng.housekeeping = s.eng.housekeeping ∧ s.acuTick.eng.rollup = s.eng.rollup
    ∧ s.acuTick.eng.dispatch = (if s.rampChanges then s.eng.dispatch.raised else s.eng.dispatch) := by
  simp [State.acuTick]

theorem State.acuTick_arrived {e : Engine} {s : State} (h : e.Arrived s.eng) : e.Arrived s.acuTick.eng :=
  State.lineTick_arrived _ (State.lineTick_arrived _ (State.rampTick_arrived h))

/-- Whether the tick event ends a group's guard (R149). -/
def State.guardsEnd (s : State) : Bool := (List.range Config.numGroups).any (fun g => (s.dsp.group g).guardEnds)

@[simp] theorem State.dspTick_engine (s : State) :
    s.dspTick.eng.housekeeping = s.eng.housekeeping ∧ s.dspTick.eng.rollup = s.eng.rollup
    ∧ s.dspTick.eng.dispatch = (if s.guardsEnd then s.eng.dispatch.raised else s.eng.dispatch)
    ∧ s.dspTick.eng.activation = s.eng.activation ∧ s.dspTick.eng.activationMerges = s.eng.activationMerges
    ∧ s.dspTick.eng.fleet = s.eng.fleet ∧ s.dspTick.eng.book = s.eng.book := by
  simp [State.dspTick, State.guardsEnd]

theorem State.dspTick_arrived {e : Engine} {s : State} (h : e.Arrived s.eng) : e.Arrived s.dspTick.eng :=
  State.raiseDispatchIf_arrived _ h

/-! ### Second marks -/

/-- Whether the period count reaches the rollup period at the next second mark (R54). -/
def State.periodEnds (s : State) : Bool := decide (s.tiu.rollupPeriod ≤ s.tiu.periodCount + 1)

/-- Whether the next second mark is a boundary event (R13). -/
def State.boundaryNext (s : State) : Bool :=
  s.mtu.running && s.wraps && decide (s.mtu.clock ≠ Config.lastInterval)

/-- The periodic timer at a second mark (R54). -/
theorem State.periodicTimer_eq (s : State) : s.periodicTimer =
    { s with
      tiu := { s.tiu with periodCount := if s.periodEnds then 0 else s.tiu.periodCount + 1 }
      eng := { s.eng with rollup := if s.periodEnds then s.eng.rollup.raised else s.eng.rollup } } := by
  by_cases h : s.tiu.rollupPeriod ≤ s.tiu.periodCount + 1 <;>
    simp [State.periodicTimer, State.periodEnds, State.raiseRollup, h]

/-- A second mark: run seconds, the second in interval and c, with the triggers that it raises (R2, R13, R54). -/
theorem State.secondMark_eq (s : State) : s.secondMark =
    { s with
      mtu := { s.mtu with
        runSeconds := s.mtu.runSeconds + 1#32
        second := if s.mtu.running then (if s.wraps then 0 else s.mtu.second + 1) else s.mtu.second
        clock := if s.boundaryNext then s.mtu.clock + 1 else s.mtu.clock }
      tiu := { s.tiu with periodCount := if s.periodEnds then 0 else s.tiu.periodCount + 1 }
      eng := { s.eng with
        rollup := if s.periodEnds then s.eng.rollup.raised else s.eng.rollup
        housekeeping := if s.boundaryNext then s.eng.housekeeping.raised else s.eng.housekeeping } } := by
  unfold State.secondMark State.countSecond
  rw [State.periodicTimer_eq]
  by_cases hrun : s.mtu.running = true
  · rw [if_pos hrun]
    by_cases hwraps : s.eng.settings.length ≤ s.mtu.second + 1
    · by_cases hlast : s.mtu.clock = Config.lastInterval <;>
        simp [State.advanceSecond, State.wraps, State.boundary, State.boundaryNext, State.raiseHousekeeping,
          State.periodEnds, hrun, hwraps, hlast]
    · simp [State.advanceSecond, State.wraps, State.boundaryNext, State.periodEnds, hrun, hwraps]
  · simp [State.boundaryNext, State.periodEnds, hrun]

theorem State.secondMark_arrived {e : Engine} {s : State} (h : e.Arrived s.eng) : e.Arrived s.secondMark.eng := by
  rw [State.secondMark_eq]
  exact h.trans ⟨rfl, rfl, rfl, .inl ⟨rfl, rfl⟩⟩

/-! ### A start -/

/-- What a start leaves of the engine: all but the class it takes its job from. -/
@[simp] theorem State.startNext_engine (s : State) :
    s.startNext.eng.bookInterval = s.eng.bookInterval ∧ s.startNext.eng.settings = s.eng.settings
    ∧ s.startNext.eng.copy = s.eng.copy ∧ s.startNext.eng.activationMerges = s.eng.activationMerges
    ∧ s.startNext.eng.abandonTotal = s.eng.abandonTotal := by
  simp only [State.startNext, State.startDispatch, State.startAdmission]
  repeat' split
  all_goals exact ⟨rfl, rfl, rfl, rfl, rfl⟩

@[simp] theorem State.choose_engine (s : State) :
    s.choose.eng.bookInterval = s.eng.bookInterval ∧ s.choose.eng.settings = s.eng.settings
    ∧ s.choose.eng.copy = s.eng.copy ∧ s.choose.eng.activationMerges = s.eng.activationMerges
    ∧ s.choose.eng.abandonTotal = s.eng.abandonTotal := by
  unfold State.choose
  split <;> simp

/-- What an idle engine's start can be: one constructor for each class, in rank order (R85). -/
inductive Started (s : State) : State → Prop
  | none : Started s s
  | activation (a : ActEntry) (t : List ActEntry) (h : s.eng.activation = a :: t) :
      Started s { s with eng := { s.eng with activation := t, job := some a.job } }
  | dispatch (h : s.eng.dispatch.flag = true) :
      Started s (State.startDispatch { s with eng := { s.eng with dispatch := { s.eng.dispatch with flag := false } } })
  | rollover (h : s.eng.housekeeping.flag = true) :
      Started s { s with eng := { s.eng with
        housekeeping := { s.eng.housekeeping with flag := false }, job := some (.rollover .between) } }
  | rollup (h : s.eng.rollup.flag = true) :
      Started s { s with eng := { s.eng with
        rollup := { s.eng.rollup with flag := false }, job := some (.rollup .snapshot) } }
  | fleet (x : Entry) (t : List Entry) (h : s.eng.fleet = x :: t) :
      Started s { s with eng := { s.eng with fleet := t, job := some (.fleet ⟨x, false⟩) } }
  | book (x : Entry) (t : List Entry) (h : s.eng.book = x :: t) :
      Started s { s with eng := { s.eng with book := t, job := some (.book ⟨x, false⟩) } }
  | admission (x : Entry) (t : List Entry) (h : s.eng.admission = x :: t) :
      Started s (State.startAdmission { s with eng := { s.eng with admission := t } } x)

theorem State.startNext_started (s : State) : Started s s.startNext := by
  simp only [State.startNext]
  split
  · exact .activation _ _ ‹_›
  · split
    · exact .dispatch ‹_›
    · split
      · exact .rollover ‹_›
      · split
        · exact .rollup ‹_›
        · split
          · exact .fleet _ _ ‹_›
          · exact .book _ _ ‹_›
          · exact .admission _ _ ‹_›
          · exact .none

/-- The engine's choice: a job in progress goes on, an idle engine starts. -/
theorem State.choose_started (s : State) : s.choose = s ∨ s.eng.job = none ∧ Started s s.choose := by
  unfold State.choose
  split
  · rename_i h
    exact .inr ⟨by simpa using h, s.startNext_started⟩
  · exact .inl rfl

end Sys2Proof.Machine
end

section
/-! PROOFS. The order of time and the Book (1.4, 7.5) at every event, and the step lemma on it. -/
namespace Sys2Proof.Machine

/-! ### Calendars and time states -/

theorem Mtu.running_eq_false_iff (m : Mtu) :
    m.running = false ↔ m.timeState = .unset ∨ (m.timeState = .acquiring ∧ ∃ n, m.calendar = some n ∧ n.restart = false) := by
  unfold Mtu.running
  cases m.timeState <;> cases m.calendar <;> simp

/-- Neither c nor b goes back. -/
structure State.NotBefore (s t : State) : Prop where
  clock : s.mtu.clock ≤ t.mtu.clock
  book : ∀ b, s.eng.bookInterval = some b → ∃ b', t.eng.bookInterval = some b' ∧ b ≤ b'

theorem State.NotBefore.refl (s : State) : s.NotBefore s := ⟨le_rfl, fun b hb => ⟨b, hb, le_rfl⟩⟩

theorem State.NotBefore.trans {s t u : State} (h : s.NotBefore t) (h' : t.NotBefore u) : s.NotBefore u where
  clock := h.clock.trans h'.clock
  book b hb := by
    obtain ⟨b₁, hb₁, hle₁⟩ := h.book b hb
    obtain ⟨b₂, hb₂, hle₂⟩ := h'.book b₁ hb₁
    exact ⟨b₂, hb₂, hle₁.trans hle₂⟩

/-- Events that leave b: c is not set back, no ROLLOVER begins, and while no calendar runs c and HOUSEKEEPING stand. -/
structure State.Advances (s t : State) : Prop where
  origin : t.mtu.origin ≤ t.mtu.clock
  clock : s.mtu.clock ≤ t.mtu.clock
  pending : t.mtu.calendar.isSome → t.mtu.timeState = .acquiring
  idle : t.mtu.running = false → s.mtu.running = false ∧ t.mtu.clock = s.mtu.clock
    ∧ t.eng.housekeeping.flag = s.eng.housekeeping.flag
  book : t.eng.bookInterval = s.eng.bookInterval
  job : ∀ st, t.eng.job = some (.rollover st) → s.eng.job = some (.rollover st)

theorem Engine.rollingOver_iff (e : Engine) : e.rollingOver = true ↔ ∃ st, e.job = some (.rollover st) := by
  unfold Engine.rollingOver
  cases e.job with
  | none => simp
  | some j => cases j <;> simp

theorem State.TimeInv.advances {s t : State} (h : s.TimeInv) (a : s.Advances t) : t.TimeInv ∧ s.NotBefore t := by
  refine ⟨⟨a.origin, a.pending, fun hrun => ?idle, fun b hb => ?book, fun st hst hne => ?stage, fun x b hb hst => ?lt⟩,
    ⟨a.clock, fun b hb => ⟨b, a.book.trans hb, le_rfl⟩⟩⟩
  case idle =>
    obtain ⟨hrun', hclock, hflag⟩ := a.idle hrun
    obtain ⟨hzero, hnone, hclear, hroll⟩ := h.idle hrun'
    refine ⟨hclock.trans hzero, a.book.trans hnone, hflag.trans hclear, ?_⟩
    rw [Bool.eq_false_iff, ne_eq, Engine.rollingOver_iff] at hroll ⊢
    rintro ⟨st, hst⟩
    exact hroll ⟨st, a.job st hst⟩
  case book => exact (h.book_le b (a.book ▸ hb)).trans a.clock
  case stage =>
    rw [a.book]
    exact h.stage_book st (a.job st hst) hne
  case lt =>
    have hst' : s.eng.job = some (.rollover (.completion x)) ∨ s.eng.job = some (.rollover (.retirement x)) :=
      hst.imp (a.job _) (a.job _)
    exact (h.stage_lt x b (a.book ▸ hb) hst').trans_le a.clock

/-- An event that leaves the Market Time Unit, b, HOUSEKEEPING and a ROLLOVER job's stage. -/
theorem State.TimeInv.stand {s t : State} (h : s.TimeInv) (hmtu : t.mtu = s.mtu)
    (hbook : t.eng.bookInterval = s.eng.bookInterval) (hflag : t.eng.housekeeping.flag = s.eng.housekeeping.flag)
    (hjob : ∀ st, t.eng.job = some (.rollover st) → s.eng.job = some (.rollover st)) : t.TimeInv ∧ s.NotBefore t :=
  h.advances ⟨hmtu ▸ h.origin_le, hmtu ▸ le_rfl, hmtu ▸ h.pending, fun hrun => ⟨hmtu ▸ hrun, by rw [hmtu], hflag⟩, hbook, hjob⟩

theorem State.TimeInv.arrived {s t : State} (h : s.TimeInv) (hmtu : t.mtu = s.mtu) (a : s.eng.Arrived t.eng)
    (hflag : t.eng.housekeeping = s.eng.housekeeping) : t.TimeInv ∧ s.NotBefore t :=
  h.stand hmtu a.bookInterval (by rw [hflag]) (fun _ hj => (a.job_of_some hj).1)

/-! ### The judgement of a second (R4, R6, R8) -/

theorem State.missPulse_of_acquiring {s : State} (h : s.mtu.timeState = .acquiring) :
    s.missPulse = { s with mtu := { s.mtu with window := false, goodRun := 0 } } := by
  simp [State.missPulse, h]

theorem State.missPulse_of_locked {s : State} (h : s.mtu.timeState = .locked) :
    s.missPulse = State.enterTimeState { s with mtu := { s.mtu with window := false, goodRun := 0, holdover := 0 } } .holdover := by
  simp [State.missPulse, h]

theorem State.missPulse_of_holdover {s : State} (h : s.mtu.timeState = .holdover)
    (hlt : s.mtu.holdover + 1 < s.eng.settings.holdoverLimit) :
    s.missPulse = { s with mtu := { s.mtu with window := false, goodRun := 0, holdover := s.mtu.holdover + 1 } } := by
  simp [State.missPulse, h, Nat.not_le.mpr hlt]

theorem State.missPulse_of_limit {s : State} (h : s.mtu.timeState = .holdover)
    (hle : s.eng.settings.holdoverLimit ≤ s.mtu.holdover + 1) :
    s.missPulse = State.enterTimeState { s with mtu := { s.mtu with
      window := false, goodRun := 0, holdover := s.mtu.holdover + 1 } } .failed := by
  simp [State.missPulse, h, hle]

theorem State.missPulse_of_unjudged {s : State} (h : s.mtu.timeState = .unset ∨ s.mtu.timeState = .failed) :
    s.missPulse = { s with mtu := { s.mtu with window := false } } := by
  rcases h with h | h <;> simp [State.missPulse, h]

/-- A missing pulse moves the window, the run and holdover seconds, and takes LOCKED to HOLDOVER or HOLDOVER to FAILED. -/
theorem State.missPulse_cases (s : State) : ∃ r n t, s.missPulse.mtu = { s.mtu with
    window := false, goodRun := r, holdover := n, timeState := t }
    ∧ (t = s.mtu.timeState ∨ (s.mtu.timeState = .locked ∧ t = .holdover) ∨ (s.mtu.timeState = .holdover ∧ t = .failed)) := by
  cases h : s.mtu.timeState with
  | unset => exact ⟨_, _, _, by rw [State.missPulse_of_unjudged (.inl h)], .inl h⟩
  | failed => exact ⟨_, _, _, by rw [State.missPulse_of_unjudged (.inr h)], .inl h⟩
  | acquiring => exact ⟨_, _, _, by rw [State.missPulse_of_acquiring h], .inl h⟩
  | locked => exact ⟨_, _, _, by rw [State.missPulse_of_locked h, State.enterTimeState_mtu], .inr (.inl ⟨rfl, rfl⟩)⟩
  | holdover =>
    by_cases hle : s.eng.settings.holdoverLimit ≤ s.mtu.holdover + 1
    · exact ⟨_, _, _, by rw [State.missPulse_of_limit h hle, State.enterTimeState_mtu], .inr (.inr ⟨rfl, rfl⟩)⟩
    · exact ⟨_, _, _, by rw [State.missPulse_of_holdover h (Nat.lt_of_not_le hle)], .inl h⟩

/-! ### A good pulse counted (R6) -/

theorem State.countGood_of_locked {s : State} (h : s.mtu.timeState = .locked) : s.countGood = s := by
  simp [State.countGood, h]

theorem State.countGood_of_run {s : State} (h : s.mtu.timeState = .acquiring ∨ s.mtu.timeState = .holdover)
    (hlt : s.mtu.goodRun + 1 < 3) :
    s.countGood = { s with mtu := { s.mtu with goodRun := s.mtu.goodRun + 1 } } := by
  rcases h with h | h <;> simp [State.countGood, h, Nat.not_le.mpr hlt]

theorem State.countGood_of_third {s : State} (h : s.mtu.timeState = .acquiring ∨ s.mtu.timeState = .holdover)
    (hle : 3 ≤ s.mtu.goodRun + 1) :
    s.countGood = State.enterTimeState { s with mtu := { s.mtu with goodRun := 3 } } .locked := by
  rcases h with h | h <;> simp [State.countGood, h, hle]

/-- A good pulse moves the run, and may lead to LOCKED. -/
theorem State.countGood_cases (s : State) : ∃ r t, s.countGood.mtu = { s.mtu with goodRun := r, timeState := t }
    ∧ (t = s.mtu.timeState ∨ ((s.mtu.timeState = .acquiring ∨ s.mtu.timeState = .holdover) ∧ t = .locked)) := by
  by_cases h : s.mtu.timeState = .acquiring ∨ s.mtu.timeState = .holdover
  · by_cases hle : 3 ≤ s.mtu.goodRun + 1
    · exact ⟨_, _, by rw [State.countGood_of_third h hle, State.enterTimeState_mtu], .inr ⟨h, rfl⟩⟩
    · exact ⟨_, _, by rw [State.countGood_of_run h (Nat.lt_of_not_le hle)], .inl rfl⟩
  · have hstand : s.countGood = s := by
      unfold State.countGood
      split <;> simp_all
    exact ⟨s.mtu.goodRun, _, by rw [hstand], .inl rfl⟩

/-! ### Ticks and pulses -/

theorem State.secondMark_advances {s : State} (h : s.TimeInv) : s.Advances s.secondMark := by
  rw [State.secondMark_eq]
  refine ⟨h.origin_le.trans ?_, ?_, h.pending, fun hrun => ?_, rfl, fun st hj => hj⟩
  · dsimp only
    split <;> omega
  · dsimp only
    split <;> omega
  · have hstop : s.mtu.running = false := hrun
    have hno : s.boundaryNext = false := by simp [State.boundaryNext, hstop]
    exact ⟨hstop, by simp [hno], by simp [hno]⟩

/-- Moves of the tick phase, the window and the counts, and of the time state while a calendar runs and none is pending. -/
theorem State.TimeInv.judged {s t : State} (h : s.TimeInv) (hclock : t.mtu.clock = s.mtu.clock)
    (horigin : t.mtu.origin = s.mtu.origin) (hcalendar : t.mtu.calendar = s.mtu.calendar) (heng : t.eng = s.eng)
    (hstate : t.mtu.timeState = s.mtu.timeState
      ∨ (s.mtu.calendar = none ∧ t.mtu.timeState ≠ .unset ∧ t.mtu.timeState ≠ .acquiring)) : s.Advances t := by
  refine ⟨by rw [horigin, hclock]; exact h.origin_le, hclock.ge, fun hp => ?_, fun hrun => ?_, by rw [heng],
    fun st => by rw [heng]; exact id⟩
  · rcases hstate with hs | ⟨hnone, -, -⟩
    · rw [hs]
      exact h.pending (hcalendar ▸ hp)
    · simp [hcalendar, hnone] at hp
  · refine ⟨?_, hclock, by rw [heng]⟩
    rw [Mtu.running_eq_false_iff] at hrun ⊢
    rcases hstate with hs | ⟨-, hunset, hacquiring⟩
    · rwa [hs, hcalendar] at hrun
    · simp [hunset, hacquiring] at hrun

theorem State.TimeInv.no_calendar {s : State} (h : s.TimeInv) (hstate : s.mtu.timeState ≠ .acquiring) :
    s.mtu.calendar = none := by
  by_contra hsome
  exact hstate (h.pending (Option.isSome_iff_ne_none.mpr hsome))

theorem State.missPulse_advances {s : State} (h : s.TimeInv) : s.Advances s.missPulse := by
  obtain ⟨r, n, t, hmtu, hstate⟩ := s.missPulse_cases
  refine h.judged (by rw [hmtu]) (by rw [hmtu]) (by rw [hmtu]) (by simp) ?_
  rw [hmtu]
  rcases hstate with hs | ⟨hs, rfl⟩ | ⟨hs, rfl⟩
  · exact .inl hs
  · exact .inr ⟨h.no_calendar (by simp [hs]), by simp, by simp⟩
  · exact .inr ⟨h.no_calendar (by simp [hs]), by simp, by simp⟩

theorem State.countGood_advances {s : State} (h : s.TimeInv) (hcalendar : s.mtu.calendar = none) : s.Advances s.countGood := by
  obtain ⟨r, t, hmtu, hstate⟩ := s.countGood_cases
  refine h.judged (by rw [hmtu]) (by rw [hmtu]) (by rw [hmtu]) (by simp) ?_
  rw [hmtu]
  rcases hstate with hs | ⟨-, rfl⟩
  · exact .inl hs
  · exact .inr ⟨hcalendar, by simp, by simp⟩

/-- The MTU at a tick event, as the judgement, then the second mark or the next phase. -/
theorem State.mtuTick_time {s : State} (h : s.TimeInv) : s.mtuTick.TimeInv ∧ s.NotBefore s.mtuTick := by
  have hjudge : (if s.mtu.phase = 1 ∧ s.mtu.window = true then s.missPulse else s).TimeInv
      ∧ s.NotBefore (if s.mtu.phase = 1 ∧ s.mtu.window = true then s.missPulse else s) := by
    split
    · exact h.advances (s.missPulse_advances h)
    · exact ⟨h, .refl s⟩
  unfold State.mtuTick
  generalize (if s.mtu.phase = 1 ∧ s.mtu.window = true then s.missPulse else s) = u at hjudge
  obtain ⟨hu, hs⟩ := hjudge
  dsimp only
  split
  · obtain ⟨hphase, hstep⟩ := hu.advances
      (hu.judged (t := { u with mtu := { u.mtu with phase := 0 } }) rfl rfl rfl rfl (.inl rfl))
    obtain ⟨hmark, hstep'⟩ := hphase.advances (State.secondMark_advances hphase)
    exact ⟨hmark, (hs.trans hstep).trans hstep'⟩
  · obtain ⟨ht, hstep⟩ := hu.advances (hu.judged (t := { u with mtu := { u.mtu with
      phase := u.mtu.phase + 1, window := u.mtu.window || (decide (u.mtu.phase = 8) && u.mtu.judging) } })
      rfl rfl rfl rfl (.inl rfl))
    exact ⟨ht, hs.trans hstep⟩

/-- The ACU and the Dispatch Unit at a tick event. -/
theorem State.unitsTick_time {s : State} (h : s.TimeInv) :
    s.acuTick.dspTick.TimeInv ∧ s.NotBefore s.acuTick.dspTick :=
  h.arrived (by simp) (State.dspTick_arrived (State.acuTick_arrived (.refl _))) (by simp)

theorem State.tick_time {s : State} (h : s.TimeInv) : s.tick.TimeInv ∧ s.NotBefore s.tick := by
  obtain ⟨hm, hs⟩ := State.mtuTick_time h
  obtain ⟨ht, hs'⟩ := State.unitsTick_time hm
  exact ⟨ht, hs.trans hs'⟩

theorem State.goodPulse_time {s : State} (h : s.TimeInv) (hcalendar : s.mtu.calendar = none) :
    s.goodPulse.TimeInv ∧ s.NotBefore s.goodPulse := by
  unfold State.goodPulse
  dsimp only
  obtain ⟨ht, hs⟩ := h.advances
    (h.judged (t := { s with mtu := { s.mtu with window := false, phase := 0 } }) rfl rfl rfl rfl (.inl rfl))
  split
  · obtain ⟨hmark, hs₁⟩ := ht.advances (State.secondMark_advances ht)
    obtain ⟨hunits, hs₂⟩ := State.unitsTick_time hmark
    obtain ⟨hgood, hs₃⟩ := hunits.advances (State.countGood_advances hunits
      (by simpa [State.secondMark_eq] using hcalendar))
    exact ⟨hgood, ((hs.trans hs₁).trans hs₂).trans hs₃⟩
  · obtain ⟨hgood, hs'⟩ := ht.advances (State.countGood_advances ht hcalendar)
    exact ⟨hgood, hs.trans hs'⟩

theorem State.strayPulse_time {s : State} (h : s.TimeInv) : s.strayPulse.TimeInv ∧ s.NotBefore s.strayPulse := by
  refine h.advances (h.judged ?_ ?_ ?_ rfl (.inl ?_)) <;> simp only [State.strayPulse] <;> split <;> rfl

/-! ### The starting pulse (R12) -/

/-- The state that the starting pulse of a pending calendar leaves. -/
theorem State.startingPulse_eq {s : State} {n : PendingCalendar} (h : ¬(n.restart = true ∧ n.interval < s.mtu.clock)) :
    s.startingPulse n =
      { s with
        mtu := { s.mtu with
          phase := 0, window := false, runSeconds := s.mtu.runSeconds + 1#32, second := n.second, goodRun := 1,
          calendar := none, clock := n.interval, origin := if n.restart then s.mtu.origin else n.interval }
        tiu := { s.tiu with periodCount := if s.periodEnds then 0 else s.tiu.periodCount + 1 }
        eng := { s.eng with
          rollup := if s.periodEnds then s.eng.rollup.raised else s.eng.rollup
          housekeeping := if n.restart = true ∧ n.interval = s.mtu.clock then s.eng.housekeeping
            else s.eng.housekeeping.raised } } := by
  unfold State.startingPulse
  rw [if_neg h]
  dsimp only [State.countSecond]
  rw [State.periodicTimer_eq]
  split <;> simp [State.periodEnds, State.raiseHousekeeping]

theorem State.startingPulse_of_past {s : State} {n : PendingCalendar} (h : n.restart = true ∧ n.interval < s.mtu.clock) :
    s.startingPulse n = State.enterTimeState { s with mtu := { s.mtu with calendar := none } } .failed := by
  unfold State.startingPulse
  rw [if_pos h]

theorem State.startingPulse_time {s : State} {n : PendingCalendar} (h : s.TimeInv)
    (hstate : s.mtu.timeState = .acquiring) (hn : s.mtu.calendar = some n) :
    (s.startingPulse n).TimeInv ∧ s.NotBefore (s.startingPulse n) := by
  by_cases hpast : n.restart = true ∧ n.interval < s.mtu.clock
  · rw [State.startingPulse_of_past hpast]
    refine h.advances ⟨h.origin_le, le_rfl, by simp, fun hrun => ?_, rfl, fun st hst => hst⟩
    simp [Mtu.running] at hrun
  · have hclock : s.mtu.clock ≤ n.interval := by
      cases hr : n.restart
      · obtain ⟨hzero, -⟩ := h.idle ((Mtu.running_eq_false_iff _).mpr (.inr ⟨hstate, n, hn, hr⟩))
        omega
      · simp only [hr, true_and] at hpast
        omega
    rw [State.startingPulse_eq hpast]
    refine h.advances ⟨?_, hclock, by simp, fun hrun => ?_, rfl, fun st hst => hst⟩
    · dsimp only
      split
      · exact h.origin_le.trans hclock
      · exact le_rfl
    · simp [Mtu.running, hstate] at hrun

theorem State.ppsPulse_time {s : State} (h : s.TimeInv) : s.ppsPulse.TimeInv ∧ s.NotBefore s.ppsPulse := by
  unfold State.ppsPulse
  split
  · exact ⟨h, .refl s⟩
  · exact ⟨h, .refl s⟩
  all_goals
    split
    · rename_i hacq hn
      exact State.startingPulse_time h (by simpa using hacq) hn
    · rename_i hnot
      split
      · refine State.goodPulse_time h ?_
        by_contra hsome
        obtain ⟨n, hn⟩ := Option.ne_none_iff_exists'.mp hsome
        have hacq := h.pending (by simp [hn])
        exact hnot n (by simp [hacq]) hn
      · exact State.strayPulse_time h

/-! ### Stages of a ROLLOVER job -/

@[simp] theorem State.stageCompletion_eng (s : State) (a : Table Account) (b : Nat) :
    (s.stageCompletion a b).eng = s.eng ∧ (s.stageCompletion a b).mtu = s.mtu := by
  unfold State.stageCompletion
  generalize s.cmt.records.filter _ = l
  induction l generalizing s with
  | nil => simp
  | cons r t ih => simp [ih, State.completeRecord]

@[simp] theorem State.stageExpiry_eng (s : State) (b : Nat) : (s.stageExpiry b).eng = s.eng ∧ (s.stageExpiry b).mtu = s.mtu := by
  unfold State.stageExpiry
  generalize s.cmt.records.filter _ = l
  induction l generalizing s with
  | nil => simp
  | cons r t ih => simp [ih]

/-- The next stage of a ROLLOVER job, at the same or a later b: below c before an interval is retired. -/
theorem State.TimeInv.staged {s t : State} {st st' : RolloverStage} {b : Nat} (h : s.TimeInv)
    (hjob : s.eng.job = some (.rollover st)) (hmtu : t.mtu = s.mtu) (hjob' : t.eng.job = some (.rollover st'))
    (hb : t.eng.bookInterval = some b) (hle : b ≤ s.mtu.clock) (hold : ∀ b', s.eng.bookInterval = some b' → b' ≤ b)
    (hlt : ∀ a, st' = .completion a ∨ st' = .retirement a → b < s.mtu.clock) : t.TimeInv ∧ s.NotBefore t := by
  have hrun : s.mtu.running ≠ false := fun hrun => by
    have hno : s.eng.rollingOver = false := (h.idle hrun).2.2.2
    have hyes : s.eng.rollingOver = true := (Engine.rollingOver_iff _).mpr ⟨st, hjob⟩
    exact absurd (hno.symm.trans hyes) nofun
  refine ⟨⟨hmtu ▸ h.origin_le, hmtu ▸ h.pending, fun hstop => absurd (hmtu ▸ hstop) hrun, fun b' hb' => ?_, fun _ _ _ => ?_,
    fun a b' hb' hst => ?_⟩, ⟨hmtu ▸ le_rfl, fun b' hb' => ⟨b, hb, hold b' hb'⟩⟩⟩
  · rw [hmtu, ← Option.some.inj (hb.symm.trans hb')]
    exact hle
  · simp [hb]
  · rw [hmtu, ← Option.some.inj (hb.symm.trans hb')]
    exact hlt a (by simpa [hjob'] using hst)

/-- The next stage of a ROLLOVER job, with b as it was. -/
theorem State.TimeInv.staged_same {s t : State} {st st' : RolloverStage} (h : s.TimeInv)
    (hjob : s.eng.job = some (.rollover st)) (hne : st ≠ .between) (hmtu : t.mtu = s.mtu)
    (hjob' : t.eng.job = some (.rollover st')) (hbook : t.eng.bookInterval = s.eng.bookInterval)
    (hlt : ∀ a, st' = .completion a ∨ st' = .retirement a → st = .completion a ∨ st = .retirement a) :
    t.TimeInv ∧ s.NotBefore t := by
  obtain ⟨b, hb⟩ := Option.isSome_iff_exists.mp (h.stage_book st hjob hne)
  exact h.staged hjob hmtu hjob' (hbook.trans hb) (h.book_le b hb) (fun b' hb' => (Option.some.inj (hb'.symm.trans hb)).le)
    (fun a hst => h.stage_lt a b hb (by simpa [hjob] using hlt a hst))

theorem State.rolloverEvent_time {s : State} {st st' : RolloverStage} (h : s.TimeInv)
    (hjob : s.eng.job = some (.rollover st)) (h' : (s.rolloverEvent st).2 = some st') :
    ((s.rolloverEvent st).1.continueWith (some (.rollover st'))).TimeInv
      ∧ s.NotBefore ((s.rolloverEvent st).1.continueWith (some (.rollover st'))) := by
  cases st with
  | between =>
    cases hb : s.eng.bookInterval with
    | none =>
      simp only [State.rolloverEvent, hb, Option.some.injEq] at h' ⊢
      subst h'
      exact h.staged hjob rfl rfl rfl h.origin_le (fun b' hb' => absurd (hb.symm.trans hb') nofun) (by simp)
    | some b =>
      simp only [State.rolloverEvent, hb] at h' ⊢
      by_cases hlt : b < s.mtu.clock
      · simp only [if_pos hlt, Option.some.injEq] at h' ⊢
        exact h.staged hjob rfl rfl hb hlt.le (fun b' hb' => (Option.some.inj (hb'.symm.trans hb)).le) (fun _ _ => hlt)
      · simp [if_neg hlt] at h'
  | retirement a =>
    obtain ⟨b, hb⟩ := Option.isSome_iff_exists.mp (h.stage_book _ hjob nofun)
    have hlt := h.stage_lt a b hb (.inr hjob)
    cases h'
    refine h.staged (b := b + 1) hjob rfl rfl ?_ hlt (fun b' hb' => ?_) (by simp)
    · simp [State.rolloverEvent, State.stageRetirement, State.continueWith, hb]
    · have := Option.some.inj (hb'.symm.trans hb)
      omega
  | intervalEnd a ps =>
    cases ps <;> cases h' <;> exact h.staged_same hjob nofun rfl rfl rfl (by simp)
  | completion a =>
    cases h'
    refine h.staged_same hjob nofun ?_ rfl ?_ ?_ <;> simp [State.rolloverEvent, State.continueWith]
  | expiry a =>
    cases h'
    refine h.staged_same hjob nofun ?_ rfl ?_ ?_ <;> simp [State.rolloverEvent, State.continueWith]
  | support a => cases h'; exact h.staged_same hjob nofun rfl rfl rfl (by simp)
  | snapshots a => cases h'; exact h.staged_same hjob nofun rfl rfl rfl (by simp)
  | nearRescan =>
    cases h'
    refine h.staged_same hjob nofun ?_ rfl ?_ (by simp) <;> simp [State.rolloverEvent, State.continueWith, State.stageNearRescan]
  | raise =>
    cases h'
    exact h.staged_same hjob nofun rfl rfl (State.raiseDispatch_arrived (.refl _)).bookInterval (by simp)

/-! ### The stages of a rollup leave time and the engine -/

theorem State.attribute_frame (s : State) (l : List Shortfall) :
    (s.attribute l).eng = s.eng ∧ (s.attribute l).mtu = s.mtu := by
  unfold State.attribute
  split <;> exact ⟨rfl, rfl⟩

theorem State.verificationWrite_frame (s : State) (l : List Shortfall) :
    (s.verificationWrite l).eng = s.eng ∧ (s.verificationWrite l).mtu = s.mtu := by
  unfold State.verificationWrite
  split <;> simp

theorem State.rollupRescan_frame (s : State) : s.rollupRescan.eng = s.eng ∧ s.rollupRescan.mtu = s.mtu := by
  unfold State.rollupRescan
  split <;> simp

/-- The events of a rollup before its last leave time and the engine. -/
theorem State.rollupEvent_frame {s : State} {st st' : RollupStage} (h : (s.rollupEvent st).2 = some st') :
    (s.rollupEvent st).1.eng = s.eng ∧ (s.rollupEvent st).1.mtu = s.mtu := by
  cases st with
  | snapshot => exact ⟨rfl, rfl⟩
  | figures n => simp [State.rollupEvent, State.rollupFigures]
  | rescan => exact s.rollupRescan_frame
  | verify => exact s.attribute_frame _
  | write l => exact s.verificationWrite_frame l
  | trigger => cases h

/-! ### Every event -/

theorem Taken.time {s t : State} (h : s.TimeInv) (a : Taken s t) : t.TimeInv ∧ s.NotBefore t := by
  cases a with
  | calendar n sec hcheck =>
    have hset : s.mtu.timeState = .unset ∨ s.mtu.timeState = .failed := by
      unfold timeSetCheck at hcheck
      split at hcheck
      · cases hcheck
      · rename_i hnot
        by_contra hno
        exact hnot (not_or.mp hno)
    refine h.advances ⟨h.origin_le, le_rfl, fun _ => rfl, fun hrun => ?_, rfl, fun st hst => hst⟩
    refine ⟨?_, rfl, rfl⟩
    rcases hset with hs | hs
    · exact (Mtu.running_eq_false_iff _).mpr (.inl hs)
    · simp [Mtu.running, hs] at hrun
  | _ => exact h.stand (by simp) (by simp [State.raiseRollup]) (by simp [State.raiseRollup]) (by simp [State.raiseRollup])

@[simp] theorem Job.orphaned_rollover_iff (p : Port) (j : Job) (st : RolloverStage) :
    j.orphaned p = .rollover st ↔ j = .rollover st := by
  cases j <;> simp [Job.orphaned]

theorem State.beginReset_time {s : State} (h : s.TimeInv) (c : ResetCause) :
    (s.beginReset c).TimeInv ∧ s.NotBefore (s.beginReset c) := by
  cases c with
  | powerOn => exact h.stand rfl rfl rfl nofun
  | pin =>
    unfold State.beginReset
    cases s.supply
    · exact ⟨h, .refl s⟩
    · exact ⟨h, .refl s⟩
    · exact h.stand rfl rfl rfl nofun

theorem State.choose_time {s : State} (h : s.TimeInv) : s.choose.TimeInv ∧ s.NotBefore s.choose := by
  obtain heq | ⟨-, hstart⟩ := s.choose_started
  · rw [heq]
    exact ⟨h, .refl s⟩
  · generalize s.choose = t at hstart
    cases hstart with
    | none => exact ⟨h, .refl s⟩
    | rollover hflag =>
      refine ⟨⟨h.origin_le, h.pending, fun hrun => ?_, h.book_le, fun st hst hne => ?_, fun a b _ hst => ?_⟩, le_rfl,
        fun b hb => ⟨b, hb, le_rfl⟩⟩
      · exact absurd ((h.idle hrun).2.2.1.symm.trans hflag) nofun
      · cases hst
        exact absurd rfl hne
      · simp at hst
    | activation a t _ =>
      refine h.stand rfl rfl rfl fun st hst => ?_
      cases a <;> cases hst
    | _ => exact h.stand rfl rfl rfl nofun

theorem Event.time {s t : State} (h : s.TimeInv) (e : Event s t) : t.TimeInv ∧ s.NotBefore t := by
  cases e with
  | reset c => exact State.beginReset_time h c
  | powerFail => exact h.stand rfl rfl rfl nofun
  | tick => exact State.tick_time h
  | pulse => exact State.ppsPulse_time h
  | rise l => exact h.arrived (by simp) (State.assertLine_arrived l (.refl _)) (by simp)
  | accepted a => exact a.time h
  | join x => exact h.arrived (by simp) (s.enqueue_arrived x) (by simp)
  | link p =>
    refine h.stand (by simp [State.linkReset]) (by simp [State.linkReset, Engine.linkReset])
      (by simp [State.linkReset, Engine.linkReset]) fun st hst => ?_
    simpa [State.linkReset, Engine.linkReset] using hst
  | work r _ w =>
    obtain ⟨-, -, hmtu, -, -, -, -, heng⟩ := w.frame
    exact h.stand hmtu (by rw [heng]) (by rw [heng]) (fun st hst => by rwa [heng] at hst)
  | commit r _ c =>
    obtain ⟨-, -, hmtu, -, -, heng, -⟩ := c.frame
    exact h.stand hmtu (by rw [heng]) (by rw [heng]) (fun st hst => by rwa [heng] at hst)
  | dispatch f g _ => exact h.stand (by simp [State.dispatchCommit]) (by simp) (by simp) (by simp)
  | rollover st st' hjob h' => exact State.rolloverEvent_time h hjob h'
  | rolloverLast b hjob hb hle =>
    refine ⟨⟨h.origin_le, h.pending, fun hrun => ?_, h.book_le, h.stage_book, h.stage_lt⟩, le_rfl,
      fun b' hb' => ⟨b', hb', le_rfl⟩⟩
    exact absurd ((h.idle hrun).2.1.symm.trans hb) nofun
  | rollup st st' hjob h' =>
    obtain ⟨heng, hmtu⟩ := State.rollupEvent_frame h'
    refine h.stand hmtu ?_ ?_ ?_ <;> simp [State.continueWith, heng]
  | rollupLast hjob => exact h.arrived (by simp) (State.raiseDispatchIf_arrived _ (.refl _)) (by simp)
  | endJob _ => exact h.stand rfl rfl rfl nofun
  | choose => exact State.choose_time h
  | level l b => exact h.stand rfl rfl rfl (fun _ hst => hst)
  | fall l => exact h.stand rfl rfl rfl (fun _ hst => hst)
  | trip e _ => exact h.stand rfl rfl rfl (fun _ hst => hst)
  | _ => exact h.stand (by simp) (by simp) (by simp) (by simp)

theorem State.TimeInv.reset : State.reset.TimeInv :=
  ⟨le_rfl, nofun, fun _ => ⟨rfl, rfl, rfl, rfl⟩, nofun, nofun, nofun⟩

/-- Time and the Book at a run of events. -/
theorem Events.time {s t : State} (run : Events s t) (h : s.TimeInv) : t.TimeInv ∧ s.NotBefore t :=
  run.keep (P := fun u => u.TimeInv ∧ s.NotBefore u)
    (fun _ _ ⟨hu, hs⟩ e => ⟨(e.time hu).1, hs.trans (e.time hu).2⟩) ⟨h, .refl s⟩

theorem State.release_time {s : State} (h : s.TimeInv) : s.release.TimeInv := by
  unfold State.release
  split
  · exact And.left (State.TimeInv.reset.stand rfl rfl rfl nofun)
  · exact h
  · exact h

/-- Settles O52, from the elementary events: each keeps the order of time and the Book, and sets neither back. -/
theorem stepKeepsTimeInvariant : Obligations.StepKeepsTimeInvariant := by
  intro s t h hstep
  have hrest : State.TimeInv { s with pending := s.pending.tail } :=
    And.left (h.stand rfl rfl rfl (fun _ hst => hst))
  obtain ⟨hrelease, rfl⟩ | hrun := step_events hstep
  · exact ⟨State.release_time hrest, fun hno => absurd hrelease hno⟩
  · obtain ⟨ht, hclock, hbook⟩ := hrun.time hrest
    exact ⟨ht, fun _ => ⟨hclock, hbook⟩⟩

end Sys2Proof.Machine
end

section
/-! PROOFS. Insertion and sorting by a strict order (lists that the tables keep in order, and the ranking of R117, R119). -/
namespace Sys2Proof.Machine

variable {α : Type} {before : α → α → Bool} {x : α} {l : List α}

/-! ### Insertion -/

theorem insertBy_perm (before : α → α → Bool) (x : α) (l : List α) : (insertBy before x l).Perm (x :: l) := by
  induction l with
  | nil => exact .refl _
  | cons y t ih =>
    unfold insertBy
    split
    · exact .refl _
    · exact (ih.cons y).trans (.swap x y t)

@[simp] theorem mem_insertBy {y : α} : y ∈ insertBy before x l ↔ y = x ∨ y ∈ l := by
  rw [(insertBy_perm before x l).mem_iff, List.mem_cons]

@[simp] theorem length_insertBy : (insertBy before x l).length = l.length + 1 :=
  (insertBy_perm before x l).length_eq

/-- Insertion keeps a list in a transitive order to which the new element compares with every other. -/
theorem insertBy_pairwise (htrans : ∀ a b c, before a b = true → before b c = true → before a c = true)
    (hcompare : ∀ y ∈ l, before x y = true ∨ before y x = true) (hl : l.Pairwise (fun a b => before a b = true)) :
    (insertBy before x l).Pairwise (fun a b => before a b = true) := by
  induction l with
  | nil => simp [insertBy]
  | cons y t ih =>
    obtain ⟨hy, ht⟩ := List.pairwise_cons.mp hl
    unfold insertBy
    split
    · rename_i hxy
      refine List.pairwise_cons.mpr ⟨fun z hz => ?_, hl⟩
      rcases List.mem_cons.mp hz with rfl | hz
      · exact hxy
      · exact htrans _ _ _ hxy (hy z hz)
    · rename_i hxy
      refine List.pairwise_cons.mpr ⟨fun z hz => ?_, ih (fun z hz => hcompare z (List.mem_cons_of_mem _ hz)) ht⟩
      rcases mem_insertBy.mp hz with rfl | hz
      · exact (hcompare y List.mem_cons_self).resolve_left hxy
      · exact hy z hz

/-- An insertion after everything that does not come after the new element. -/
theorem insertBy_of_all_before (h : ∀ y ∈ l, before x y = false) : insertBy before x l = l ++ [x] := by
  induction l with
  | nil => rfl
  | cons y t ih =>
    rw [insertBy, if_neg (by simp [h y List.mem_cons_self]), ih (fun z hz => h z (List.mem_cons_of_mem _ hz)),
      List.cons_append]

/-! ### Insertion by a key -/

section
variable (key : α → Nat)

theorem insertBy_key_pairwise (hne : ∀ y ∈ l, key y ≠ key x) (hl : l.Pairwise (fun a b => key a < key b)) :
    (insertBy (fun a b => decide (key a < key b)) x l).Pairwise (fun a b => key a < key b) := by
  have h := insertBy_pairwise (before := fun a b => decide (key a < key b)) (x := x) (l := l)
    (fun a b c => by simpa using lt_trans) (fun y hy => by have := hne y hy; simp only [decide_eq_true_eq]; omega)
    (by simpa using hl)
  simpa using h

end

/-! ### Sorting -/

theorem sortBy_perm (before : α → α → Bool) (l : List α) : (sortBy before l).Perm l := by
  induction l with
  | nil => exact .refl _
  | cons x t ih => exact (insertBy_perm before x _).trans (ih.cons x)

@[simp] theorem mem_sortBy : x ∈ sortBy before l ↔ x ∈ l := (sortBy_perm before l).mem_iff

@[simp] theorem length_sortBy : (sortBy before l).length = l.length := (sortBy_perm before l).length_eq

/-- Sorting orders a list whose elements all compare. -/
theorem sortBy_pairwise (htrans : ∀ a b c, before a b = true → before b c = true → before a c = true)
    (hcompare : l.Pairwise (fun a b => before a b = true ∨ before b a = true)) :
    (sortBy before l).Pairwise (fun a b => before a b = true) := by
  induction l with
  | nil => exact .nil
  | cons x t ih =>
    obtain ⟨hx, ht⟩ := List.pairwise_cons.mp hcompare
    exact insertBy_pairwise htrans (fun y hy => hx y (mem_sortBy.mp hy)) (ih ht)

/-- Sorting leaves a list that is in order. -/
theorem sortBy_of_pairwise (h : l.Pairwise (fun a b => before a b = true)) : sortBy before l = l := by
  induction l with
  | nil => rfl
  | cons x t ih =>
    obtain ⟨hx, ht⟩ := List.pairwise_cons.mp h
    have hsorted : sortBy before (x :: t) = insertBy before x (sortBy before t) := rfl
    rw [hsorted, ih ht]
    cases t with
    | nil => rfl
    | cons y t => rw [insertBy, if_pos (hx y List.mem_cons_self)]

end Sys2Proof.Machine
end

section
/-! PROOFS. The activation list and the ACTIVATION class at every event (9.1 to 9.4, 6.3), and the step lemmas on them. -/
namespace Sys2Proof.Machine

/-! ### Fractions in a direction's range (R130, R131) -/

theorem Direction.clamp_allows (d : Direction) (f : Int) : d.allows (d.clamp f) := by
  cases d <;> simp only [Direction.allows, Direction.clamp, clampInt] <;> omega

theorem Direction.allows_zero (d : Direction) : d.allows 0 := by
  cases d <;> simp [Direction.allows]

/-- A move toward a target ends at most at it, and no further from it than it began. -/
theorem moveToward_between (current target : Int) (step : Nat) :
    (current ≤ moveToward current target step ∧ moveToward current target step ≤ target)
    ∨ (target ≤ moveToward current target step ∧ moveToward current target step ≤ current) := by
  unfold moveToward
  dsimp only
  split <;> omega

theorem Direction.allows_between {d : Direction} {a b x : Int} (ha : d.allows a) (hb : d.allows b)
    (hx : (a ≤ x ∧ x ≤ b) ∨ (b ≤ x ∧ x ≤ a)) : d.allows x := by
  cases d <;> simp only [Direction.allows] at ha hb ⊢ <;> omega

/-- What R130 says of one record, by its product's record. -/
structure Activation.Fits (r : Activation) (p : Product) : Prop where
  numbered : r.product < Config.numProducts
  target : p.direction.allows r.target
  current : p.direction.allows r.current
  cause : r.target = 0 ↔ r.cause.isSome

/-- The records of an activation list. -/
structure State.ActivationsFit (s : State) : Prop where
  ordered : s.acu.records.Pairwise (fun a b => a.product < b.product)
  fits : ∀ r ∈ s.acu.records, r.Fits (s.product r.product)

theorem State.ActivationInv.activationsFit {s : State} (h : s.ActivationInv) : s.ActivationsFit :=
  ⟨h.ordered, fun r hr => ⟨h.numbered r hr, h.target r hr, h.current r hr, h.cause r hr⟩⟩

theorem State.ActivationsFit.inv {s : State} (h : s.ActivationsFit)
    (events : ∀ e, ActEntry.trip e ∈ s.eng.activation ∨ s.eng.job = some (.trip e) → e.fraction = Line.fraction e.line) :
    s.ActivationInv :=
  ⟨h.ordered, fun r hr => (h.fits r hr).numbered, fun r hr => (h.fits r hr).target, fun r hr => (h.fits r hr).current,
    fun r hr => (h.fits r hr).cause, events⟩

theorem Activation.Fits.ended {r : Activation} {p : Product} (h : r.Fits p) (c : EndCause) :
    Activation.Fits { r with target := 0, cause := some c } p :=
  ⟨h.numbered, p.direction.allows_zero, h.current, by simp⟩

theorem Activation.Fits.deactivated {r : Activation} {p : Product} (h : r.Fits p) : r.deactivated.1.Fits p := by
  unfold Activation.deactivated
  split
  · exact h
  · exact h.ended _

theorem Activation.deactivated_product (r : Activation) : r.deactivated.1.product = r.product := by
  unfold Activation.deactivated
  split <;> rfl

/-! ### The ramp (R135) -/

@[simp] theorem Activation.tick_product (r : Activation) (p : Product) : (r.tick p).product = r.product := by
  simp only [Activation.tick, Activation.tested, Activation.counted]
  split <;> split <;> rfl

theorem Activation.tested_fits {r : Activation} {p : Product} (h : r.Fits p) : (r.tested p).Fits p := by
  have hcounted : r.counted.Fits p := by
    unfold Activation.counted
    split
    · exact h
    · exact ⟨h.numbered, h.target, h.current, h.cause⟩
  unfold Activation.tested
  split
  · exact hcounted.ended _
  · exact hcounted

theorem Activation.tick_fits {r : Activation} {p : Product} (h : r.Fits p) : (r.tick p).Fits p := by
  have ht := Activation.tested_fits h
  exact ⟨ht.numbered, ht.target, Direction.allows_between ht.current ht.target (moveToward_between _ _ _), ht.cause⟩

/-! ### Orders (R131 to R133, R141) -/

/-- What an order of a nonzero fraction that is not refused leaves: a new record, or the product's with that target. -/
theorem Acu.retarget_cases {a : Acu} {p : Nat} {f : Int} {o : ActOrigin} {r : Activation} {res : OrderResult}
    (h : a.retarget p f o = some (r, res)) :
    (a.record p = none ∧ r = ⟨p, f, 0, none, 0, o⟩)
    ∨ ∃ x, a.record p = some x ∧ (r = x ∨ r = { x with target := f, cause := none, origin := o }
        ∨ (x.target ≠ 0 ∧ r = { x with target := f, origin := o })) := by
  unfold Acu.retarget at h
  split at h
  · cases h
    exact .inl ⟨‹_›, rfl⟩
  · rename_i x hx
    refine .inr ⟨x, hx, ?_⟩
    split at h
    · split at h
      · cases h
      · cases h
        exact .inr (.inl rfl)
    · split at h
      · cases h
        exact .inl rfl
      · cases h
        exact .inr (.inr ⟨‹_›, rfl⟩)

theorem State.ActivationsFit.retargeted {s : State} (h : s.ActivationsFit) {p : Nat} {f : Int} {o : ActOrigin} {r : Activation}
    {res : OrderResult} (hp : p ≤ 7) (hf : f ≠ 0) (hallows : (s.product p).direction.allows f)
    (hr : s.acu.retarget p f o = some (r, res)) : r.Fits (s.product r.product) := by
  obtain ⟨-, rfl⟩ | ⟨x, hx, hcases⟩ := Acu.retarget_cases hr
  · exact ⟨Nat.lt_succ_of_le hp, hallows, Direction.allows_zero _, by simp [hf]⟩
  · obtain ⟨hmem, rfl⟩ := Acu.record_mem hx
    have hfits := h.fits x hmem
    rcases hcases with rfl | rfl | ⟨hne, rfl⟩
    · exact hfits
    · exact ⟨hfits.numbered, hallows, hfits.current, by simp [hf]⟩
    · exact ⟨hfits.numbered, hallows, hfits.current, by simp [hf, ← hfits.cause, hne]⟩

theorem Acu.mem_put {a : Acu} {r x : Activation} :
    x ∈ (a.put r).records ↔ x = r ∨ (x ∈ a.records ∧ x.product ≠ r.product) := by
  simp [Acu.put]

theorem State.ActivationsFit.put {s : State} (h : s.ActivationsFit) {r : Activation} (hr : r.Fits (s.product r.product)) :
    State.ActivationsFit { s with acu := s.acu.put r } where
  ordered := insertBy_key_pairwise Activation.product (by simp) (h.ordered.filter _)
  fits x hx := by
    rcases Acu.mem_put.mp hx with rfl | ⟨hx, -⟩
    · exact hr
    · exact h.fits x hx

/-- An activation list whose records each go to one that fits, or leave. -/
theorem State.ActivationsFit.mapped {s t : State} (h : s.ActivationsFit) (f : Activation → Activation) (keep : Activation → Bool)
    (hproduct : ∀ r, (f r).product = r.product) (hfits : ∀ r ∈ s.acu.records, r.Fits (s.product r.product) →
      (f r).Fits (s.product r.product))
    (hrecords : t.acu.records = (s.acu.records.map f).filter keep) (hcmt : t.cmt.products = s.cmt.products) :
    t.ActivationsFit where
  ordered := by
    rw [hrecords]
    refine List.Pairwise.filter _ (List.pairwise_map.mpr (h.ordered.imp ?_))
    simp [hproduct]
  fits r hr := by
    rw [hrecords] at hr
    obtain ⟨x, hx, rfl⟩ := List.mem_map.mp (List.mem_of_mem_filter hr)
    have := hfits x hx (h.fits x hx)
    simpa only [State.product, hproduct, hcmt] using this

theorem State.ActivationsFit.stand {s t : State} (h : s.ActivationsFit) (hrecords : t.acu.records = s.acu.records)
    (hcmt : t.cmt.products = s.cmt.products) : t.ActivationsFit where
  ordered := hrecords ▸ h.ordered
  fits r hr := by
    have := h.fits r (hrecords ▸ hr)
    simpa only [State.product, hcmt] using this

/-- PRODUCT_SET changes no product with an activation record (R22, R23). -/
theorem State.ActivationsFit.productSet {s : State} (h : s.ActivationsFit) {p : Nat} (x : Product) (href : s.referenced p = false) :
    State.ActivationsFit { s with cmt := { s.cmt with products := Table.set {} s.cmt.products p x } } where
  ordered := h.ordered
  fits r hr := by
    have hne : r.product ≠ p := by
      rintro rfl
      have hnone : s.acu.record r.product = none := by simp_all [State.referenced]
      simpa using List.find?_eq_none.mp hnone r hr
    have hproduct : State.product { s with cmt := { s.cmt with products := Table.set {} s.cmt.products p x } } r.product
        = s.product r.product := Table.get_set_ne hne
    rw [hproduct]
    exact h.fits r hr

/-! ### The lines leave the records -/

@[simp] theorem Acu.withLine_frame (a : Acu) (l : Line) (x : LineState) :
    (a.withLine l x).records = a.records ∧ (a.withLine l x).accounts = a.accounts
    ∧ (a.withLine l x).guardTicks = a.guardTicks ∧ (a.withLine l x).qualification = a.qualification := by
  cases l <;> simp [Acu.withLine]

@[simp] theorem Acu.line_withLine_self (a : Acu) (l : Line) (x : LineState) : (a.withLine l x).line l = x := by
  cases l <;> rfl

theorem Acu.line_withLine (a : Acu) (l m : Line) (x : LineState) :
    (a.withLine l x).line m = if m = l then x else a.line m := by
  cases l <;> cases m <;> rfl

/-- What a line's qualification writes in the ACU: the line alone. -/
theorem State.qualify_acu (s : State) (l : Line) : (s.qualify l).acu = s.acu.withLine l (match (s.acu.line l).armed with
    | some _ => { s.acu.line l with count := 0, latched := true }
    | none => { s.acu.line l with count := 0, latched := true, unarmed := saturate 255 ((s.acu.line l).unarmed + 1) }) := by
  unfold State.qualify
  dsimp only
  split <;> simp_all

@[simp] theorem State.qualify_records (s : State) (l : Line) : (s.qualify l).acu.records = s.acu.records := by
  simp [State.qualify_acu]

@[simp] theorem State.lineTick_records (s : State) (l : Line) : (s.lineTick l).acu.records = s.acu.records := by
  unfold State.lineTick
  dsimp only
  split
  · simp
  · split <;> simp

@[simp] theorem State.assertLine_records (s : State) (l : Line) : (s.assertLine l).acu.records = s.acu.records := by
  unfold State.assertLine
  dsimp only
  split
  · rfl
  · split <;> simp

theorem State.rampTick_records (s : State) : s.rampTick.acu.records =
    (s.acu.records.map (fun r => r.tick (s.product r.product))).filter (fun r => !r.finished) := by
  simp [State.rampTick]

@[simp] theorem State.acuTick_records (s : State) : s.acuTick.acu.records = s.rampTick.acu.records := by
  simp [State.acuTick]

theorem State.acuTick_fit {s : State} (h : s.ActivationsFit) : s.acuTick.ActivationsFit :=
  h.mapped (fun r => r.tick (s.product r.product)) (fun r => !r.finished) (by simp)
    (fun _ _ hr => Activation.tick_fits hr) (by rw [State.acuTick_records, State.rampTick_records]) (by simp)

/-! ### The records at every event -/

@[simp] theorem State.strayPulse_frame (s : State) :
    s.strayPulse.eng = s.eng ∧ s.strayPulse.acu = s.acu ∧ s.strayPulse.cmt = s.cmt ∧ s.strayPulse.cgr = s.cgr
    ∧ s.strayPulse.frg = s.frg ∧ s.strayPulse.tiu = s.tiu ∧ s.strayPulse.dsp = s.dsp ∧ s.strayPulse.dvu = s.dvu
    ∧ s.strayPulse.supply = s.supply ∧ s.strayPulse.cause = s.cause ∧ s.strayPulse.pending = s.pending :=
  ⟨rfl, rfl, rfl, rfl, rfl, rfl, rfl, rfl, rfl, rfl, rfl⟩

@[simp] theorem State.strayPulse_port (s : State) (p : Port) : s.strayPulse.port p = s.port p := by
  cases p <;> rfl

/-- The blocks that a starting pulse leaves. -/
@[simp] theorem State.startingPulse_frame (s : State) (n : PendingCalendar) :
    (s.startingPulse n).acu = s.acu ∧ (s.startingPulse n).cmt = s.cmt ∧ (s.startingPulse n).cgr = s.cgr
    ∧ (s.startingPulse n).frg = s.frg ∧ (s.startingPulse n).dsp = s.dsp ∧ (s.startingPulse n).dvu = s.dvu
    ∧ (s.startingPulse n).supply = s.supply ∧ (s.startingPulse n).cause = s.cause
    ∧ (s.startingPulse n).pending = s.pending
    ∧ (s.startingPulse n).eng.activation = s.eng.activation ∧ (s.startingPulse n).eng.job = s.eng.job
    ∧ (s.startingPulse n).eng.scratch = s.eng.scratch
    ∧ (s.startingPulse n).eng.bookInterval = s.eng.bookInterval ∧ (s.startingPulse n).eng.settings = s.eng.settings := by
  by_cases h : n.restart = true ∧ n.interval < s.mtu.clock
  · simp [State.startingPulse_of_past h]
  · simp [State.startingPulse_eq h]

/-- A PPS pulse is none, a starting pulse, a stray one, or a good one (TABLE 1(b)). -/
inductive Pulsed (s : State) : State → Prop
  | ignored : Pulsed s s
  | starting (n : PendingCalendar) (hstate : s.mtu.timeState = .acquiring) (hn : s.mtu.calendar = some n) :
      Pulsed s (s.startingPulse n)
  | good : Pulsed s s.goodPulse
  | stray : Pulsed s s.strayPulse

theorem State.ppsPulse_pulsed (s : State) : Pulsed s s.ppsPulse := by
  unfold State.ppsPulse
  split
  · exact .ignored
  · exact .ignored
  all_goals
    split
    · rename_i hacq hn
      exact .starting _ (by simpa using hacq) hn
    · split
      · exact .good
      · exact .stray

theorem State.goodPulse_fit {s : State} (h : s.ActivationsFit) : s.goodPulse.ActivationsFit := by
  unfold State.goodPulse
  dsimp only
  split
  · have hmark : (State.secondMark { s with mtu := { s.mtu with window := false, phase := 0 } }).ActivationsFit :=
      h.stand (by simp) (by simp)
    exact (State.acuTick_fit hmark).stand (by simp) (by simp)
  · exact h.stand (by simp) (by simp)

theorem State.ppsPulse_fit {s : State} (h : s.ActivationsFit) : s.ppsPulse.ActivationsFit := by
  have hp := s.ppsPulse_pulsed
  generalize s.ppsPulse = t at hp
  cases hp with
  | ignored => exact h
  | starting n _ _ => exact h.stand (by simp) (by simp)
  | good => exact State.goodPulse_fit h
  | stray => exact h.stand rfl rfl

@[simp] theorem Commitments.settle_products (c : Commitments) (r : Commitment) (f : Figures) :
    (c.settle r f).products = c.products := rfl

theorem Commitments.foldl_settle_products (figures : Commitment → Figures) (l : List Commitment) (c : Commitments) :
    (l.foldl (fun c r => c.settle r (figures r)) c).products = c.products := by
  induction l generalizing c with
  | nil => rfl
  | cons r t ih => rw [List.foldl_cons, ih, Commitments.settle_products]

@[simp] theorem readSettlementWork_products (s : State) : (readSettlementWork s).1.cmt.products = s.cmt.products :=
  Commitments.foldl_settle_products _ _ _

theorem Worked.fit {s t : State} (h : s.ActivationsFit) (w : Worked s t) : t.ActivationsFit := by
  cases w with
  | ordered p x o r res hp hf hr => exact h.put (h.retargeted hp hf (Direction.clamp_allows _ x) hr)
  | ended p r hr =>
    refine h.put ?_
    rw [Activation.deactivated_product]
    exact (h.fits r (Acu.record_mem hr).1).deactivated
  | product a hp href hrange => exact h.productSet _ href
  | settlements => exact h.stand rfl (by simp)
  | _ => exact h.stand (by simp [State.raiseRollup]) (by simp [State.raiseRollup, Commitments.remove, Commitments.replace])

/-- The record that a trip job leaves, if its checks pass (R141). -/
theorem State.tripOutcome_record {s : State} {e : TripEvent} {r : Activation} (h : (s.tripOutcome e).2 = some r) :
    e.product ≤ 7 ∧ ∃ res, s.acu.retarget e.product ((s.product e.product).direction.clamp e.fraction)
      (Line.origin e.line) = some (r, res) ∧ (s.product e.product).direction.fits e.line = true := by
  unfold State.tripOutcome at h
  dsimp only at h
  split at h
  · cases h
  · split at h
    · cases h
    · rename_i hfits _ hcheck
      split at h
      · cases h
      · rename_i r' res hr
        cases h
        exact ⟨(State.orderCheck_eq_none hcheck).1, res, hr, by simpa using hfits⟩

/-- A line's fraction is not 0 in a direction that fits the line (R139, R141). -/
theorem Direction.clamp_line_ne_zero {d : Direction} {l : Line} (h : d.fits l = true) : d.clamp (Line.fraction l) ≠ 0 := by
  cases d <;> cases l <;> simp_all [Direction.fits, Direction.clamp, Line.fraction, clampInt]

theorem tripWork_fit {s : State} {e : TripEvent} (h : s.ActivationsFit) (he : e.fraction = Line.fraction e.line) :
    (tripWork e s).ActivationsFit := by
  unfold tripWork
  dsimp only
  cases hr : (s.tripOutcome e).2 with
  | none => exact h.stand (by simp) (by simp)
  | some r =>
    obtain ⟨hp, res, hret, hfits⟩ := State.tripOutcome_record hr
    have hne : (s.product e.product).direction.clamp e.fraction ≠ 0 := he ▸ Direction.clamp_line_ne_zero hfits
    exact (h.put (h.retargeted hp hne (Direction.clamp_allows _ _) hret)).stand (by simp) (by simp)

/-! ### The stages of a ROLLOVER job -/

@[simp] theorem Commitments.remove_frame (c : Commitments) (i : Nat) :
    (c.remove i).products = c.products ∧ (c.remove i).queue = c.queue := ⟨rfl, rfl⟩

@[simp] theorem Commitments.replace_frame (c : Commitments) (r : Commitment) :
    (c.replace r).products = c.products ∧ (c.replace r).queue = c.queue ∧ (c.replace r).issues = c.issues := ⟨rfl, rfl, rfl⟩

/-- What completing a record leaves (R104): all but the Commitment Table and the SETTLEMENT notices. -/
@[simp] theorem State.completeRecord_frame (a : Table Account) (s : State) (r : Commitment) :
    (State.completeRecord a s r).supply = s.supply ∧ (State.completeRecord a s r).cause = s.cause
    ∧ (State.completeRecord a s r).mtu = s.mtu ∧ (State.completeRecord a s r).frg = s.frg
    ∧ (State.completeRecord a s r).tiu = s.tiu ∧ (State.completeRecord a s r).cgr = s.cgr
    ∧ (State.completeRecord a s r).eng = s.eng ∧ (State.completeRecord a s r).acu = s.acu
    ∧ (State.completeRecord a s r).dsp = s.dsp ∧ (State.completeRecord a s r).dvu = s.dvu
    ∧ (State.completeRecord a s r).pending = s.pending
    ∧ (State.completeRecord a s r).cmt.products = s.cmt.products := by
  unfold State.completeRecord
  dsimp only
  split <;> simp

@[simp] theorem State.stageCompletion_frame (s : State) (a : Table Account) (b : Nat) :
    (s.stageCompletion a b).supply = s.supply ∧ (s.stageCompletion a b).cause = s.cause
    ∧ (s.stageCompletion a b).frg = s.frg ∧ (s.stageCompletion a b).tiu = s.tiu ∧ (s.stageCompletion a b).cgr = s.cgr
    ∧ (s.stageCompletion a b).acu = s.acu ∧ (s.stageCompletion a b).dsp = s.dsp ∧ (s.stageCompletion a b).dvu = s.dvu
    ∧ (s.stageCompletion a b).pending = s.pending ∧ (s.stageCompletion a b).cmt.products = s.cmt.products := by
  unfold State.stageCompletion
  generalize s.cmt.records.filter _ = l
  induction l generalizing s with
  | nil => simp
  | cons r t ih => simp [ih]

@[simp] theorem State.stageExpiry_frame (s : State) (b : Nat) :
    (s.stageExpiry b).supply = s.supply ∧ (s.stageExpiry b).cause = s.cause
    ∧ (s.stageExpiry b).frg = s.frg ∧ (s.stageExpiry b).tiu = s.tiu
    ∧ (s.stageExpiry b).acu = s.acu ∧ (s.stageExpiry b).dsp = s.dsp ∧ (s.stageExpiry b).dvu = s.dvu
    ∧ (s.stageExpiry b).pending = s.pending ∧ (s.stageExpiry b).cmt.products = s.cmt.products
    ∧ (s.stageExpiry b).cmt.queue = s.cmt.queue := by
  unfold State.stageExpiry
  generalize s.cmt.records.filter _ = l
  induction l generalizing s with
  | nil => simp
  | cons r t ih => simp [ih]

theorem State.orderIntervalEnd_fit {s : State} (h : s.ActivationsFit) (p : Nat) : (s.orderIntervalEnd p).ActivationsFit := by
  refine h.mapped (fun r => if r.product = p then { r with target := 0, cause := some .intervalEnd } else r) (fun _ => true)
    (fun r => ?_) (fun r _ hr => ?_) (List.filter_eq_self.mpr (fun _ _ => rfl)).symm rfl
  · split <;> rfl
  · split
    · exact hr.ended _
    · exact hr

theorem State.rolloverEvent_fit {s : State} (h : s.ActivationsFit) (st : RolloverStage) : (s.rolloverEvent st).1.ActivationsFit := by
  unfold State.rolloverEvent
  split
  case h_8 => exact State.orderIntervalEnd_fit h _
  case h_2 => split <;> exact h.stand rfl rfl
  all_goals
    exact h.stand (by simp [State.initRing, State.stageRetirement, State.stageSnapshots, State.stageNearRescan])
      (by simp [State.initRing, State.stageRetirement, State.stageSnapshots, State.stageNearRescan])

@[simp] theorem State.continueWith_frame (s : State) (j : Option Job) :
    (s.continueWith j).supply = s.supply ∧ (s.continueWith j).cause = s.cause ∧ (s.continueWith j).mtu = s.mtu
    ∧ (s.continueWith j).frg = s.frg ∧ (s.continueWith j).tiu = s.tiu ∧ (s.continueWith j).cgr = s.cgr
    ∧ (s.continueWith j).cmt = s.cmt ∧ (s.continueWith j).acu = s.acu ∧ (s.continueWith j).dsp = s.dsp
    ∧ (s.continueWith j).dvu = s.dvu ∧ (s.continueWith j).pending = s.pending
    ∧ (s.continueWith j).eng.job = j := by
  cases j <;> simp [State.continueWith]

@[simp] theorem State.rollupEvent_units (s : State) (st : RollupStage) :
    (s.rollupEvent st).1.acu = s.acu ∧ (s.rollupEvent st).1.cmt.products = s.cmt.products
    ∧ (s.rollupEvent st).1.dsp = s.dsp ∧ (s.rollupEvent st).1.frg = s.frg ∧ (s.rollupEvent st).1.cgr.ring = s.cgr.ring
    ∧ (s.rollupEvent st).1.cmt.queue = s.cmt.queue ∧ (s.rollupEvent st).1.cmt.issues = s.cmt.issues
    ∧ (s.rollupEvent st).1.mtu = s.mtu ∧ (s.rollupEvent st).1.supply = s.supply ∧ (s.rollupEvent st).1.cause = s.cause
    ∧ (s.rollupEvent st).1.pending = s.pending := by
  cases st with
  | figures n => simp [State.rollupEvent, State.rollupFigures]
  | rescan => simp only [State.rollupEvent, State.rollupRescan]; split <;> simp
  | verify => simp only [State.rollupEvent, State.attribute]; split <;> simp
  | write l => simp only [State.rollupEvent, State.verificationWrite]; split <;> simp
  | snapshot => simp [State.rollupEvent]
  | trigger => simp [State.rollupEvent]

/-! ### The ACTIVATION class at every event (R83) -/

/-- A change of the ACTIVATION class: entries leave, an order joins, or a trip event joins for a line that has none queued. -/
inductive ActChange (l : List ActEntry) : List ActEntry → Prop
  | leave {l' : List ActEntry} (h : l'.Sublist l) : ActChange l l'
  | order (x : Entry) : ActChange l (l ++ [.order x])
  | trip (m : Line) (p : Nat) (h : l.any (ActEntry.isTrip m) = false) : ActChange l (l ++ [.trip ⟨m, p, Line.fraction m⟩])

abbrev ActChanges : List ActEntry → List ActEntry → Prop := Relation.ReflTransGen ActChange

theorem ActChange.trip_mem {l l' : List ActEntry} (h : ActChange l l') {e : TripEvent} (he : .trip e ∈ l') :
    .trip e ∈ l ∨ e.fraction = Line.fraction e.line := by
  cases h with
  | leave h => exact .inl (h.subset he)
  | order x => exact .inl (by simpa using he)
  | trip m p _ =>
    rcases List.mem_append.mp he with h | h
    · exact .inl h
    · cases List.mem_singleton.mp h
      exact .inr rfl

theorem ActChanges.trip_mem {l l' : List ActEntry} (h : ActChanges l l') {e : TripEvent} (he : .trip e ∈ l') :
    .trip e ∈ l ∨ e.fraction = Line.fraction e.line := by
  induction h with
  | refl => exact .inl he
  | tail _ hc ih => exact (hc.trip_mem he).elim ih .inr

theorem ActChange.one_trip {l l' : List ActEntry} (h : ActChange l l') (m : Line)
    (hone : l.countP (ActEntry.isTrip m) ≤ 1) : l'.countP (ActEntry.isTrip m) ≤ 1 := by
  cases h with
  | leave h => exact (h.countP_le).trans hone
  | order x => simpa [ActEntry.isTrip] using hone
  | trip n p hnone =>
    by_cases hmn : n = m
    · subst hmn
      have hzero : l.countP (ActEntry.isTrip n) = 0 := by
        rw [List.countP_eq_zero]
        simpa using hnone
      simp [hzero, ActEntry.isTrip]
    · simpa [ActEntry.isTrip, hmn] using hone

theorem ActChanges.one_trip {l l' : List ActEntry} (h : ActChanges l l') (m : Line)
    (hone : l.countP (ActEntry.isTrip m) ≤ 1) : l'.countP (ActEntry.isTrip m) ≤ 1 := by
  induction h with
  | refl => exact hone
  | tail _ hc ih => exact hc.one_trip m ih

theorem ActChanges.of_eq {l l' : List ActEntry} (h : l' = l) : ActChanges l l' := h ▸ .refl

section
variable {a : List ActEntry} {s : State} (h : ActChanges a s.eng.activation)
include h

theorem State.trip_queue (l : Line) (p : Nat) : ActChanges a (s.trip l p).eng.activation := by
  unfold State.trip
  split
  · exact h
  · rename_i hnone
    rw [(State.joinActivation_engine _ _).2.2.2.1]
    exact h.tail (.trip l p (by simpa using hnone))

theorem State.qualify_queue (l : Line) : ActChanges a (s.qualify l).eng.activation := by
  unfold State.qualify
  dsimp only
  split
  · exact State.trip_queue (by exact h) _ _
  · exact h

theorem State.lineTick_queue (l : Line) : ActChanges a (s.lineTick l).eng.activation := by
  unfold State.lineTick
  dsimp only
  split
  · exact State.qualify_queue h l
  · split <;> exact h

theorem State.assertLine_queue (l : Line) : ActChanges a (s.assertLine l).eng.activation := by
  unfold State.assertLine
  dsimp only
  split
  · exact h
  · split
    · exact State.qualify_queue (by exact h) l
    · exact h

theorem State.acuTick_queue : ActChanges a s.acuTick.eng.activation :=
  State.lineTick_queue (State.lineTick_queue (by simpa using h) _) _

theorem State.dspTick_queue : ActChanges a s.dspTick.eng.activation := by
  simpa using h

end

@[simp] theorem State.mtuTick_activation (s : State) : s.mtuTick.eng.activation = s.eng.activation := by
  unfold State.mtuTick
  generalize hu : (if s.mtu.phase = 1 ∧ s.mtu.window = true then s.missPulse else s) = u
  have heng : u.eng = s.eng := by
    subst hu
    split <;> simp
  dsimp only
  split
  · simp [State.secondMark_eq, heng]
  · simp [heng]

theorem State.tick_queue (s : State) : ActChanges s.eng.activation s.tick.eng.activation :=
  State.dspTick_queue (State.acuTick_queue (.of_eq (by simp)))

theorem State.ppsPulse_queue (s : State) : ActChanges s.eng.activation s.ppsPulse.eng.activation := by
  have hp := s.ppsPulse_pulsed
  generalize s.ppsPulse = t at hp
  cases hp with
  | ignored => exact .refl
  | starting n _ _ => exact .of_eq (by simp)
  | stray => exact .refl
  | good =>
    unfold State.goodPulse
    dsimp only
    rw [State.countGood_eng]
    split
    · exact State.dspTick_queue (State.acuTick_queue (.of_eq (by simp [State.secondMark_eq])))
    · exact .refl

/-! ### The job in progress at the events outside the engine -/

theorem State.mtuTick_arrived (s : State) : s.eng.Arrived s.mtuTick.eng := by
  unfold State.mtuTick
  generalize hu : (if s.mtu.phase = 1 ∧ s.mtu.window = true then s.missPulse else s) = u
  have heng : u.eng = s.eng := by
    subst hu
    split <;> simp
  dsimp only
  rw [← heng]
  split
  · exact State.secondMark_arrived (.refl _)
  · exact .refl _

theorem State.tick_arrived (s : State) : s.eng.Arrived s.tick.eng :=
  State.dspTick_arrived (State.acuTick_arrived s.mtuTick_arrived)

theorem State.ppsPulse_arrived (s : State) : s.eng.Arrived s.ppsPulse.eng := by
  have hp := s.ppsPulse_pulsed
  generalize s.ppsPulse = t at hp
  cases hp with
  | ignored => exact .refl _
  | stray => exact .refl _
  | starting n _ _ =>
    by_cases h : n.restart = true ∧ n.interval < s.mtu.clock
    · rw [State.startingPulse_of_past h]
      exact .refl _
    · rw [State.startingPulse_eq h]
      exact ⟨rfl, rfl, rfl, .inl ⟨rfl, rfl⟩⟩
  | good =>
    unfold State.goodPulse
    dsimp only
    rw [State.countGood_eng]
    split
    · exact State.dspTick_arrived (State.acuTick_arrived (State.secondMark_arrived (.refl _)))
    · exact .refl _

/-! ### The trip events at every event -/

/-- The trip events after an event: the ACTIVATION class changes as it may, and a trip job comes from it. -/
structure State.Trips (s t : State) : Prop where
  queue : ActChanges s.eng.activation t.eng.activation
  job : ∀ e, t.eng.job = some (.trip e) → s.eng.job = some (.trip e) ∨ ActEntry.trip e ∈ s.eng.activation

theorem State.Trips.of_arrived {s t : State} (queue : ActChanges s.eng.activation t.eng.activation) (h : s.eng.Arrived t.eng) :
    s.Trips t :=
  ⟨queue, fun _ he => .inl (h.job_of_some he).1⟩

theorem State.Trips.stand {s t : State} (hqueue : t.eng.activation = s.eng.activation)
    (hjob : ∀ e, t.eng.job = some (.trip e) → s.eng.job = some (.trip e)) : s.Trips t :=
  ⟨.of_eq hqueue, fun e he => .inl (hjob e he)⟩

theorem State.enqueue_queue (s : State) (x : Entry) : ActChanges s.eng.activation (s.enqueue x).eng.activation := by
  unfold State.enqueue
  split
  case h_1 | h_2 =>
    rw [(State.joinActivation_engine _ _).2.2.2.1]
    exact .single (.order _)
  all_goals exact .refl

theorem State.beginReset_trips (s : State) (c : ResetCause) : s.Trips (s.beginReset c) := by
  cases c with
  | powerOn => exact ⟨.single (.leave (List.nil_sublist _)), nofun⟩
  | pin =>
    unfold State.beginReset
    cases s.supply
    · exact .stand rfl (fun _ => id)
    · exact .stand rfl (fun _ => id)
    · exact ⟨.single (.leave (List.nil_sublist _)), nofun⟩

theorem State.choose_trips (s : State) : s.Trips s.choose := by
  obtain heq | ⟨-, hstart⟩ := s.choose_started
  · rw [heq]
    exact .stand rfl (fun _ => id)
  · generalize s.choose = t at hstart
    cases hstart with
    | none => exact .stand rfl (fun _ => id)
    | activation a t ha =>
      refine ⟨.single (.leave (ha ▸ List.sublist_cons_self a t)), fun e he => .inr ?_⟩
      cases a with
      | order x => cases he
      | trip v =>
        cases he
        rw [ha]
        exact List.mem_cons_self
    | _ => exact .stand rfl nofun

@[simp] theorem State.rolloverEvent_activation (s : State) (st : RolloverStage) :
    (s.rolloverEvent st).1.eng.activation = s.eng.activation := by
  unfold State.rolloverEvent
  split
  case h_2 => split <;> rfl
  all_goals simp [State.initRing, State.stageRetirement, State.stageSnapshots, State.stageNearRescan, State.orderIntervalEnd]

theorem Event.trips {s t : State} (e : Event s t) : s.Trips t := by
  cases e with
  | reset c => exact s.beginReset_trips c
  | powerFail => exact ⟨.single (.leave (List.nil_sublist _)), nofun⟩
  | level l b => exact .stand rfl (fun _ => id)
  | fall l => exact .stand rfl (fun _ => id)
  | trip e _ => exact .stand rfl (fun _ => id)
  | tick => exact .of_arrived s.tick_queue s.tick_arrived
  | pulse => exact .of_arrived s.ppsPulse_queue s.ppsPulse_arrived
  | rise l => exact .of_arrived (State.assertLine_queue .refl l) (State.assertLine_arrived l (.refl _))
  | accepted a => cases a <;> exact .stand (by simp [State.raiseRollup]) (by simp [State.raiseRollup])
  | join x => exact .of_arrived (s.enqueue_queue x) (s.enqueue_arrived x)
  | link p =>
    refine ⟨.single (.leave ?_), fun e he => .inl ?_⟩
    · simp [State.linkReset, Engine.linkReset]
    · obtain ⟨j, hj, ho⟩ : ∃ j, s.eng.job = some j ∧ j.orphaned p = .trip e := by
        simpa [State.linkReset, Engine.linkReset] using he
      cases j <;> cases ho
      exact hj
  | work r _ w =>
    have heng := w.frame.2.2.2.2.2.2.2
    exact .stand (by rw [heng]) (fun e he => by rwa [heng] at he)
  | commit r _ c =>
    have heng := c.frame.2.2.2.2.2.1
    exact .stand (by rw [heng]) (fun e he => by rwa [heng] at he)
  | dispatch f g _ => exact .stand (by simp) (by simp)
  | rollover st st' _ _ => exact .stand (by simp [State.continueWith]) (by simp)
  | rolloverLast b _ _ _ => exact .stand rfl (fun _ => id)
  | rollup st st' _ h' =>
    exact .stand (by simp [State.continueWith, (State.rollupEvent_frame h').1]) (by simp)
  | rollupLast _ => exact .of_arrived (.of_eq (by simp)) (State.raiseDispatchIf_arrived _ (.refl _))
  | endJob _ => exact .stand rfl nofun
  | choose => exact s.choose_trips
  | _ => exact .stand (by simp) (by simp)

/-- The activation list at every event: the records go on fitting, given the fraction of a trip job. -/
theorem Event.fit {s t : State} (h : s.ActivationsFit)
    (htrip : ∀ e, s.eng.job = some (.trip e) → e.fraction = Line.fraction e.line) (e : Event s t) : t.ActivationsFit := by
  cases e with
  | reset c =>
    cases c with
    | powerOn => exact h.stand rfl rfl
    | pin => unfold State.beginReset; cases s.supply <;> exact h.stand rfl rfl
  | powerFail => exact h.stand rfl rfl
  | tick => exact (State.acuTick_fit (s := s.mtuTick) (h.stand (by simp) (by simp))).stand (by simp [State.tick]) (by simp [State.tick])
  | pulse => exact State.ppsPulse_fit h
  | accepted a => cases a <;> exact h.stand (by simp) (by simp)
  | work r _ w => exact w.fit h
  | commit r _ c => cases c <;> exact h.stand (by simp) (by simp [Commitments.place])
  | trip e hjob => exact tripWork_fit h (htrip e hjob)
  | rollover st st' _ _ => exact (State.rolloverEvent_fit h st).stand (by simp) (by simp)
  | level l b => exact h.stand (by simp [State.setLevel]) rfl
  | rise l => exact h.stand (by simp) (by simp)
  | fall l => exact h.stand (by simp [State.deassertLine]) rfl
  | join x => exact h.stand (by simp) (by simp)
  | dispatch f g _ => exact h.stand (by simp [State.dispatchCommit]) (by simp [State.dispatchCommit])
  | rollup st st' _ _ => exact h.stand (by simp) (by simp)
  | rollupLast _ => exact h.stand (by simp) (by simp)
  | choose => exact h.stand (by simp) (by simp)
  | link p => exact h.stand (by simp [State.linkReset]) (by simp [State.linkReset])
  | rolloverLast b _ _ _ => exact h.stand rfl rfl
  | endJob _ => exact h.stand rfl rfl
  | _ => exact h.stand (by simp) (by simp)

/-! ### The step lemmas -/

theorem Event.activation {s t : State} (h : s.ActivationInv) (e : Event s t) : t.ActivationInv := by
  refine State.ActivationsFit.inv (e.fit h.activationsFit fun v hv => h.events v (.inr hv)) fun v hv => ?_
  rcases hv with hv | hv
  · exact (e.trips.queue.trip_mem hv).elim (fun hold => h.events v (.inl hold)) id
  · exact h.events v (e.trips.job v hv).symm

theorem State.release_activation {s : State} (h : s.ActivationInv) : s.release.ActivationInv := by
  unfold State.release
  split
  · exact ⟨.nil, nofun, nofun, nofun, nofun, nofun⟩
  · exact h
  · exact h

theorem State.release_oneTripEach {s : State} (h : s.eng.oneTripEach) : s.release.eng.oneTripEach := by
  unfold State.release
  split
  · exact fun l => Nat.zero_le _
  · exact h
  · exact h

/-- Settles O53, from the elementary events: the records fit their products' ranges, and trip events join one a line. -/
theorem stepKeepsActivationInvariant : Obligations.StepKeepsActivationInvariant := by
  refine ⟨fun s t h hstep => ?_, fun s t h hstep => ?_⟩
  · have hrest : State.ActivationInv { s with pending := s.pending.tail } :=
      ⟨h.ordered, h.numbered, h.target, h.current, h.cause, h.events⟩
    obtain ⟨-, rfl⟩ | hrun := step_events hstep
    · exact State.release_activation hrest
    · exact hrun.keep (fun _ _ hu e => e.activation hu) hrest
  · obtain ⟨-, rfl⟩ | hrun := step_events hstep
    · exact State.release_oneTripEach (s := { s with pending := s.pending.tail }) h
    · exact hrun.keep (P := fun u => u.eng.oneTripEach) (fun _ _ hu e l => e.trips.queue.one_trip l (hu l)) h

end Sys2Proof.Machine
end

section
/-! PROOFS. The canonical form of the tables (log 18), the idle engine and the dirty set (6.4, 10.5), from the elementary
events. -/
namespace Sys2Proof.Machine

/-! ### Ports that only notices reach -/

/-- Port `y` is port `x` after notices alone. -/
def PortState.Noted (x y : PortState) : Prop := ∃ ks : List Notice, y = ks.foldl PortState.note x

namespace PortState.Noted

variable {x y z : PortState}

theorem refl (x : PortState) : x.Noted x := ⟨[], rfl⟩

theorem trans (h : x.Noted y) (h' : y.Noted z) : x.Noted z := by
  obtain ⟨ks, rfl⟩ := h
  obtain ⟨ls, rfl⟩ := h'
  exact ⟨ks ++ ls, by rw [List.foldl_append]⟩

theorem note (h : x.Noted y) (k : Notice) : x.Noted (y.note k) := h.trans ⟨[k], rfl⟩

/-- What a notice keeps, notices keep. -/
theorem keep {P : PortState → Prop} (h : x.Noted y) (hnote : ∀ u k, P u → P (u.note k)) (hx : P x) : P y := by
  obtain ⟨ks, rfl⟩ := h
  induction ks generalizing x with
  | nil => exact hx
  | cons k t ih => exact ih (hnote _ _ hx)

end PortState.Noted

section
variable {x : PortState} {s : State} {p : Port}

theorem State.raise_noted (k : Notice) (h : x.Noted (s.port p)) : x.Noted ((s.raise k).port p) := by
  rw [State.port_raise]
  split
  · exact h.note k
  · exact h

theorem State.raiseIf_noted (b : Bool) (k : Notice) (h : x.Noted (s.port p)) : x.Noted ((s.raiseIf b k).port p) := by
  cases b
  · exact h
  · exact State.raise_noted k h

theorem State.raiseTimes_noted (k : Notice) (n : Nat) (h : x.Noted (s.port p)) : x.Noted ((s.raiseTimes k n).port p) := by
  induction n generalizing s with
  | zero => exact h
  | succ n ih => exact ih (State.raise_noted k h)

theorem State.enterTimeState_noted (u : TimeState) (h : x.Noted (s.port p)) : x.Noted ((s.enterTimeState u).port p) :=
  State.raise_noted .timeState (s := { s with mtu := _ }) (by cases p <;> exact h)

/-- A block written, and no port. -/
theorem State.noted_congr {t : State} (h : x.Noted (s.port p)) (hm : t.market = s.market := by rfl)
    (hg : t.grid = s.grid := by rfl) (hf : t.fleet = s.fleet := by rfl) : x.Noted (t.port p) := by
  cases p
  · exact Eq.subst (motive := x.Noted) hm.symm h
  · exact Eq.subst (motive := x.Noted) hg.symm h
  · exact Eq.subst (motive := x.Noted) hf.symm h

theorem State.rescan_noted (scope : List (Nat × Nat)) (h : x.Noted (s.port p)) : x.Noted ((s.rescan scope).port p) := by
  unfold State.rescan
  split
  · exact h
  · split
    · exact State.raiseIf_noted _ _ (State.noted_congr h)
    · exact State.raiseIf_noted _ _ (State.noted_congr h)

theorem State.dropCommitment_noted (r : Commitment) (h : x.Noted (s.port p)) : x.Noted ((s.dropCommitment r).port p) :=
  State.rescan_noted _ (State.noted_congr h)

theorem State.completeRecord_noted (a : Table Account) (r : Commitment) (h : x.Noted (s.port p)) :
    x.Noted ((State.completeRecord a s r).port p) :=
  State.raise_noted _ (State.noted_congr h)

theorem State.stageCompletion_noted (a : Table Account) (b : Nat) (h : x.Noted (s.port p)) :
    x.Noted ((s.stageCompletion a b).port p) := by
  unfold State.stageCompletion
  generalize s.cmt.records.filter _ = l
  induction l generalizing s with
  | nil => exact h
  | cons r t ih => exact ih (State.completeRecord_noted a r h)

theorem State.stageExpiry_noted (b : Nat) (h : x.Noted (s.port p)) : x.Noted ((s.stageExpiry b).port p) := by
  unfold State.stageExpiry
  generalize s.cmt.records.filter _ = l
  induction l generalizing s with
  | nil => exact h
  | cons r t ih => exact ih (State.raise_noted _ (State.dropCommitment_noted r h))

theorem State.rolloverEvent_noted (st : RolloverStage) (h : x.Noted (s.port p)) : x.Noted ((s.rolloverEvent st).1.port p) := by
  unfold State.rolloverEvent
  split
  case h_2 =>
    split
    · exact h
    · exact State.noted_congr h
  case h_3 => exact State.stageCompletion_noted _ _ h
  case h_5 => exact State.stageExpiry_noted _ h
  case h_10 => exact State.rescan_noted _ h
  all_goals exact State.noted_congr h

theorem State.rollupEvent_noted (st : RollupStage) (h : x.Noted (s.port p)) : x.Noted ((s.rollupEvent st).1.port p) := by
  cases st with
  | snapshot => exact h
  | figures n => exact State.raiseIf_noted _ _ (State.noted_congr h)
  | rescan =>
    simp only [State.rollupEvent, State.rollupRescan]
    split
    · exact h
    · exact State.rescan_noted _ h
  | verify =>
    simp only [State.rollupEvent, State.attribute]
    split
    · exact h
    · exact State.noted_congr h
  | write l =>
    simp only [State.rollupEvent, State.verificationWrite]
    split
    · exact h
    · exact State.raise_noted _ (State.noted_congr h)
  | trigger => simpa [State.rollupEvent] using h

theorem State.missPulse_noted (h : x.Noted (s.port p)) : x.Noted (s.missPulse.port p) := by
  have hport : ∀ m : Mtu, x.Noted (State.port { s with mtu := m } p) := fun m => State.noted_congr h
  cases hstate : s.mtu.timeState with
  | unset => rw [State.missPulse_of_unjudged (.inl hstate)]; exact hport _
  | failed => rw [State.missPulse_of_unjudged (.inr hstate)]; exact hport _
  | acquiring => rw [State.missPulse_of_acquiring hstate]; exact hport _
  | locked => rw [State.missPulse_of_locked hstate]; exact State.enterTimeState_noted _ (hport _)
  | holdover =>
    by_cases hlimit : s.eng.settings.holdoverLimit ≤ s.mtu.holdover + 1
    · rw [State.missPulse_of_limit hstate hlimit]; exact State.enterTimeState_noted _ (hport _)
    · rw [State.missPulse_of_holdover hstate (Nat.lt_of_not_le hlimit)]; exact hport _

theorem State.countGood_noted (h : x.Noted (s.port p)) : x.Noted (s.countGood.port p) := by
  unfold State.countGood
  have hport : ∀ m : Mtu, x.Noted (State.port { s with mtu := m } p) := fun m => State.noted_congr h
  split
  case h_1 | h_2 =>
    split
    · exact State.enterTimeState_noted _ (hport _)
    · exact hport _
  all_goals exact h

theorem State.mtuTick_noted (h : x.Noted (s.port p)) : x.Noted (s.mtuTick.port p) := by
  unfold State.mtuTick
  generalize hjudged : (if s.mtu.phase = 1 ∧ s.mtu.window = true then s.missPulse else s) = u
  have hu : x.Noted (u.port p) := by
    subst hjudged
    split
    · exact State.missPulse_noted h
    · exact h
  dsimp only
  split
  · rw [State.secondMark_port]
    exact State.noted_congr hu
  · exact State.noted_congr hu

theorem State.rampTick_noted (h : x.Noted (s.port p)) : x.Noted (s.rampTick.port p) := by
  simp only [State.rampTick, State.raiseDispatchIf_port]
  exact State.raiseTimes_noted _ _ (State.raiseTimes_noted _ _ (State.noted_congr h))

theorem State.tick_noted (h : x.Noted (s.port p)) : x.Noted (s.tick.port p) := by
  simpa [State.tick, State.acuTick] using State.rampTick_noted (State.mtuTick_noted h)

theorem State.ppsPulse_noted (h : x.Noted (s.port p)) : x.Noted (s.ppsPulse.port p) := by
  have hp := s.ppsPulse_pulsed
  generalize s.ppsPulse = t at hp
  cases hp with
  | ignored => exact h
  | starting n _ _ =>
    by_cases hpast : n.restart = true ∧ n.interval < s.mtu.clock
    · rw [State.startingPulse_of_past hpast]
      exact State.enterTimeState_noted _ (State.noted_congr h)
    · rw [State.startingPulse_eq hpast]
      exact State.noted_congr h
  | good =>
    unfold State.goodPulse
    dsimp only
    refine State.countGood_noted ?_
    split
    · rw [State.dspTick_port, State.acuTick, State.lineTick_port, State.lineTick_port]
      exact State.rampTick_noted (by rw [State.secondMark_port]; exact State.noted_congr h)
    · exact State.noted_congr h
  | stray => rwa [State.strayPulse_port]

theorem State.dispatchCommit_noted (f : List (Nat × Int)) (g : List Nat) (h : x.Noted (s.port p)) :
    x.Noted ((s.dispatchCommit f g).port p) :=
  State.raiseIf_noted _ _ (State.raiseIf_noted _ _ (State.noted_congr h))

theorem tripWork_noted (e : TripEvent) (h : x.Noted (s.port p)) : x.Noted ((tripWork e s).port p) :=
  State.raise_noted _ (State.noted_congr h)

theorem Worked.noted {t : State} (w : Worked s t) (h : x.Noted (s.port p)) : x.Noted (t.port p) := by
  cases w with
  | nothing => exact h
  | forecasts g i l => exact State.rescan_noted _ (State.noted_congr h)
  | dropped r _ _ => exact State.dropCommitment_noted r h
  | awarded r q _ _ _ _ _ _ => exact State.rescan_noted _ (State.noted_congr h)
  | rescanned a _ => exact State.rescan_noted _ (State.noted_congr h)
  | _ => exact State.noted_congr h

theorem Committed.noted {t : State} {r : Running} (c : Committed r s t) (h : x.Noted (s.port p)) : x.Noted (t.port p) := by
  cases c with
  | nothing => exact h
  | held a y id _ _ _ _ _ => exact State.noted_congr h

end

/-! ### The tables in canonical form -/

/-- The Fleet Registry's tables. -/
structure Registry.Canonical (r : Registry) : Prop where
  sites : Table.wf {} r.sites = true
  groups : Table.wf {} r.groups = true
  curves : Table.wf flatCurve r.curves = true

/-- The Telemetry Intake Unit's tables. -/
structure Intake.Canonical (t : Intake) : Prop where
  raw : Table.wf none t.raw = true
  sites : Table.wf {} t.sites = true
  groups : Table.wf {} t.groups = true

/-- The Dispatch Unit's tables. -/
structure DispatchUnit.Canonical (d : DispatchUnit) : Prop where
  groups : Table.wf {} d.groups = true
  setpoints : Table.wf {} d.setpoints = true

/-- The canonical form, unit by unit. -/
structure State.Canonical (s : State) : Prop where
  products : Table.wf {} s.cmt.products = true
  issues : Table.wf 0#8 s.cmt.issues = true
  registry : s.frg.Canonical
  intake : s.tiu.Canonical
  ring : Table.wf {} s.cgr.ring = true
  accounts : Table.wf {} s.acu.accounts = true
  dispatch : s.dsp.Canonical
  ports : ∀ p, (s.port p).canonical = true

theorem State.canonical_iff (s : State) : s.canonical = true ↔ s.Canonical := by
  simp only [State.canonical, Bool.and_eq_true]
  constructor
  · rintro ⟨⟨⟨⟨⟨⟨⟨⟨⟨⟨⟨⟨⟨⟨h1, h2⟩, h3⟩, h4⟩, h5⟩, h6⟩, h7⟩, h8⟩, h9⟩, h10⟩, h11⟩, h12⟩, hm⟩, hg⟩, hf⟩
    exact ⟨h1, h2, ⟨h3, h4, h5⟩, ⟨h6, h7, h8⟩, h9, h10, ⟨h11, h12⟩, fun p => by cases p <;> assumption⟩
  · rintro ⟨h1, h2, ⟨h3, h4, h5⟩, ⟨h6, h7, h8⟩, h9, h10, ⟨h11, h12⟩, h⟩
    exact ⟨⟨⟨⟨⟨⟨⟨⟨⟨⟨⟨⟨⟨⟨h1, h2⟩, h3⟩, h4⟩, h5⟩, h6⟩, h7⟩, h8⟩, h9⟩, h10⟩, h11⟩, h12⟩, h .market⟩, h .grid⟩, h .fleet⟩

theorem PortState.note_canonical (x : PortState) (k : Notice) (h : x.canonical = true) : (x.note k).canonical = true := by
  simp only [PortState.canonical, Bool.and_eq_true, PortState.note] at h ⊢
  exact ⟨h.1, Table.wf_modify _ h.2⟩

theorem PortState.Noted.canonical {x y : PortState} (h : x.Noted y) (hx : x.canonical = true) : y.canonical = true :=
  h.keep (P := fun u => u.canonical = true) PortState.note_canonical hx

/-- An event keeps the canonical form of the tables it leaves, and of those it writes by `h…`. -/
theorem State.Canonical.keep {s t : State} (h : s.Canonical)
    (hproducts : Table.wf {} s.cmt.products = true → Table.wf {} t.cmt.products = true := by simp)
    (hissues : Table.wf 0#8 s.cmt.issues = true → Table.wf 0#8 t.cmt.issues = true := by simp)
    (hregistry : s.frg.Canonical → t.frg.Canonical := by simp) (hintake : s.tiu.Canonical → t.tiu.Canonical := by simp)
    (hring : Table.wf {} s.cgr.ring = true → Table.wf {} t.cgr.ring = true := by simp)
    (haccounts : Table.wf {} s.acu.accounts = true → Table.wf {} t.acu.accounts = true := by simp)
    (hdispatch : s.dsp.Canonical → t.dsp.Canonical := by simp)
    (hports : ∀ p, (s.port p).Noted (t.port p)) : t.Canonical where
  products := hproducts h.products
  issues := hissues h.issues
  registry := hregistry h.registry
  intake := hintake h.intake
  ring := hring h.ring
  accounts := haccounts h.accounts
  dispatch := hdispatch h.dispatch
  ports := fun p => (hports p).canonical (h.ports p)

/-- One port written. -/
theorem State.Canonical.withPort {s : State} (h : s.Canonical) (p : Port) {x : PortState} (hx : x.canonical = true) :
    (s.withPort p x).Canonical where
  products := by simpa using h.products
  issues := by simpa using h.issues
  registry := by simpa using h.registry
  intake := by simpa using h.intake
  ring := by simpa using h.ring
  accounts := by simpa using h.accounts
  dispatch := by simpa using h.dispatch
  ports := fun q => by
    rw [State.port_withPort]
    split
    · exact hx
    · exact h.ports q

/-! ### Loads, records and the units at a tick event -/

theorem Grid.modify_ring (c : Grid) (g i : Nat) (f : GridEntry → GridEntry) (h : Table.wf {} c.ring = true) :
    Table.wf {} (c.modify g i f).ring = true := Table.wf_modify f h

theorem State.changeLoads_ring (s : State) (first count : Nat) (l : List Share) (f : Share → Quad) (op : Quad → Quad → Quad)
    (h : Table.wf {} s.cgr.ring = true) : Table.wf {} (s.changeLoads first count l f op).cgr.ring = true := by
  unfold State.changeLoads
  dsimp only
  generalize List.flatMap _ _ = pairs
  generalize s.cgr = c at h
  induction pairs generalizing c with
  | nil => exact h
  | cons e t ih => exact ih _ (c.modify_ring _ _ _ h)

theorem Grid.writeForecasts_ring (c : Grid) (g i : Nat) (l : List ForecastArgs) (h : Table.wf {} c.ring = true) :
    Table.wf {} (c.writeForecasts g i l).ring = true := by
  induction l generalizing c i with
  | nil => exact h
  | cons e t ih => exact ih _ _ (c.modify_ring _ _ _ h)

theorem Commitments.remove_issues (c : Commitments) (i : Nat) (h : Table.wf 0#8 c.issues = true) :
    Table.wf 0#8 (c.remove i).issues = true := Table.wf_set h

theorem Commitments.foldl_settle_issues (figures : Commitment → Figures) (l : List Commitment) (c : Commitments)
    (h : Table.wf 0#8 c.issues = true) : Table.wf 0#8 (l.foldl (fun c r => c.settle r (figures r)) c).issues = true := by
  induction l generalizing c with
  | nil => exact h
  | cons r t ih => exact ih _ (c.remove_issues _ h)

theorem State.stageCompletion_issues (s : State) (a : Table Account) (b : Nat) (h : Table.wf 0#8 s.cmt.issues = true) :
    Table.wf 0#8 (s.stageCompletion a b).cmt.issues = true := by
  unfold State.stageCompletion
  generalize s.cmt.records.filter _ = l
  induction l generalizing s with
  | nil => exact h
  | cons r t ih =>
    refine ih _ ?_
    simp only [State.completeRecord, State.raise_cmt]
    split
    · exact s.cmt.remove_issues _ h
    · exact h

theorem State.stageExpiry_tables (s : State) (b : Nat) (h : Table.wf 0#8 s.cmt.issues = true ∧ Table.wf {} s.cgr.ring = true) :
    Table.wf 0#8 (s.stageExpiry b).cmt.issues = true ∧ Table.wf {} (s.stageExpiry b).cgr.ring = true := by
  unfold State.stageExpiry
  generalize s.cmt.records.filter _ = l
  induction l generalizing s with
  | nil => exact h
  | cons r t ih =>
    refine ih _ ?_
    simp only [State.raise_cmt, State.raise_cgr, s.dropCommitment_frame r]
    exact ⟨s.cmt.remove_issues _ h.1, s.changeLoads_ring _ _ _ _ _ h.2⟩

@[simp] theorem Acu.put_frame (a : Acu) (r : Activation) :
    (a.put r).accounts = a.accounts ∧ (a.put r).uft = a.uft ∧ (a.put r).oft = a.oft ∧ (a.put r).guardTicks = a.guardTicks
    ∧ (a.put r).qualification = a.qualification := ⟨rfl, rfl, rfl, rfl, rfl⟩

/-- The accounts after the tick event's records, whatever their order. -/
theorem State.rampTick_accounts (s : State) (h : Table.wf {} s.acu.accounts = true) :
    Table.wf {} s.rampTick.acu.accounts = true := by
  simp only [State.rampTick, State.raiseDispatchIf_acu, State.raiseTimes_acu]
  generalize s.acu.accounts = accounts at h
  generalize s.acu.records = l
  induction l generalizing accounts with
  | nil => exact h
  | cons r t ih => exact ih _ (Table.wf_modify _ h)

@[simp] theorem State.qualify_accounts (s : State) (l : Line) : (s.qualify l).acu.accounts = s.acu.accounts := by
  simp [State.qualify_acu]

@[simp] theorem State.lineTick_accounts (s : State) (l : Line) : (s.lineTick l).acu.accounts = s.acu.accounts := by
  unfold State.lineTick
  dsimp only
  split
  · simp
  · split <;> simp

@[simp] theorem State.assertLine_accounts (s : State) (l : Line) : (s.assertLine l).acu.accounts = s.acu.accounts := by
  unfold State.assertLine
  dsimp only
  split
  · rfl
  · split <;> simp

theorem State.acuTick_canonical {s : State} (h : s.Canonical) : s.acuTick.Canonical :=
  h.keep (haccounts := fun ha => by simpa [State.acuTick] using s.rampTick_accounts ha)
    (hports := fun p => by simpa [State.acuTick] using State.rampTick_noted (.refl (s.port p)))

theorem State.dspTick_canonical {s : State} (h : s.Canonical) : s.dspTick.Canonical :=
  h.keep (hdispatch := fun hd => by simpa [State.dspTick] using ⟨Table.wf_tabulate, hd.setpoints⟩)
    (hports := fun p => by simpa using .refl (s.port p))

theorem State.secondMark_canonical {s : State} (h : s.Canonical) : s.secondMark.Canonical :=
  h.keep (hintake := fun hi => by rw [State.secondMark_eq]; exact ⟨hi.raw, hi.sites, hi.groups⟩)
    (hports := fun p => by simpa using .refl (s.port p))

/-- Time written, and nothing else. -/
theorem State.Canonical.mtu {s : State} (h : s.Canonical) (m : Mtu) : State.Canonical { s with mtu := m } :=
  h.keep (hports := fun p => State.noted_congr (.refl (s.port p)))

theorem State.missPulse_canonical {s : State} (h : s.Canonical) : s.missPulse.Canonical :=
  h.keep (hports := fun p => State.missPulse_noted (.refl (s.port p)))

theorem State.mtuTick_canonical {s : State} (h : s.Canonical) : s.mtuTick.Canonical := by
  unfold State.mtuTick
  generalize hjudged : (if s.mtu.phase = 1 ∧ s.mtu.window = true then s.missPulse else s) = u
  have hu : u.Canonical := by
    subst hjudged
    split
    · exact State.missPulse_canonical h
    · exact h
  dsimp only
  split
  · exact State.secondMark_canonical (hu.mtu _)
  · exact hu.mtu _

theorem State.ppsPulse_canonical {s : State} (h : s.Canonical) : s.ppsPulse.Canonical := by
  have hports : ∀ p, (s.port p).Noted (s.ppsPulse.port p) := fun p => State.ppsPulse_noted (.refl _)
  have hp := s.ppsPulse_pulsed
  generalize s.ppsPulse = t at hp hports
  cases hp with
  | ignored => exact h
  | starting n _ _ =>
    refine h.keep (hintake := fun hi => ?_) (hports := hports)
    by_cases hpast : n.restart = true ∧ n.interval < s.mtu.clock
    · simpa [State.startingPulse_of_past hpast] using hi
    · rw [State.startingPulse_eq hpast]
      exact ⟨hi.raw, hi.sites, hi.groups⟩
  | good =>
    unfold State.goodPulse at hports ⊢
    dsimp only at hports ⊢
    have hcount : ∀ {u : State}, u.Canonical → u.countGood.Canonical := fun {u} hu =>
      hu.keep (hports := fun p => State.countGood_noted (.refl (u.port p)))
    refine hcount ?_
    split
    · exact State.dspTick_canonical (State.acuTick_canonical (State.secondMark_canonical (h.mtu _)))
    · exact h.mtu _
  | stray => exact h.keep (hports := hports)

/-! ### Every event keeps the canonical form -/

theorem Intake.store_canonical {t : Intake} (h : t.Canonical) (now : Word) (r : Report) : (t.store now r).Canonical := by
  unfold Intake.store
  split
  · refine ⟨?_, h.sites, h.groups⟩
    dsimp only
    exact Table.wf_set h.raw
  · exact h

theorem Taken.canonical {s t : State} (h : s.Canonical) (a : Taken s t) : t.Canonical := by
  have hself : ∀ p, (s.port p).Noted (s.port p) := fun p => .refl _
  cases a with
  | nothing => exact h
  | calendar n sec _ => exact h.keep (hports := fun p => State.enterTimeState_noted _ (State.noted_congr (hself p)))
  | reports l =>
    exact h.keep (hports := fun p => State.noted_congr (hself p))
      (hintake := fun hi => List.foldlRecOn (motive := Intake.Canonical) l _ hi fun _ ht r _ => Intake.store_canonical ht _ r)
  | fleetSettings l p =>
    exact h.keep (hintake := fun hi => ⟨hi.raw, hi.sites, hi.groups⟩) (hports := fun p => State.noted_congr (hself p))
  | staleLimit l p =>
    exact h.keep (hintake := fun hi => ⟨hi.raw, hi.sites, hi.groups⟩) (hports := fun p => State.noted_congr (hself p))
  | armed l p => exact h.keep (hports := fun p => State.noted_congr (hself p))
  | gridSettings g q => exact h.keep (hports := fun p => State.noted_congr (hself p))
  | changes =>
    exact h.keep (hdispatch := fun hd => ⟨hd.groups, hd.setpoints⟩) (hports := fun p => State.noted_congr (hself p))
  | cleared => exact h.keep (hports := fun p => State.noted_congr (hself p))
  | notices p =>
    have hp := h.ports p
    simp only [PortState.canonical, Bool.and_eq_true] at hp
    exact h.withPort p (by simp [PortState.canonical, hp.1, Table.wf_nil])
  | attention p m t => exact h.withPort p (h.ports p)

theorem Worked.canonical {s t : State} (h : s.Canonical) (w : Worked s t) : t.Canonical := by
  have hports : ∀ p, (s.port p).Noted (t.port p) := fun p => w.noted (.refl _)
  cases w with
  | nothing => exact h
  | ordered p x o r res _ _ _ => exact h.keep (hports := hports)
  | ended p r _ => exact h.keep (hports := hports)
  | forecasts g i l =>
    exact h.keep (hring := fun hr => by simpa using s.cgr.writeForecasts_ring g i l hr) (hports := hports)
  | site i x => exact h.keep (hregistry := fun hr => ⟨Table.wf_set hr.sites, hr.groups, hr.curves⟩) (hports := hports)
  | group g x _ => exact h.keep (hregistry := fun hr => ⟨hr.sites, Table.wf_set hr.groups, hr.curves⟩) (hports := hports)
  | curve k v => exact h.keep (hregistry := fun hr => ⟨hr.sites, hr.groups, Table.wf_set hr.curves⟩) (hports := hports)
  | dropped r _ _ =>
    exact h.keep (hissues := fun hi => by simpa using s.cmt.remove_issues _ hi)
      (hring := fun hr => by rw [(s.dropCommitment_frame r).2.2.2.2.2.2.2.2.2.2.2]; exact s.changeLoads_ring _ _ _ _ _ hr) (hports := hports)
  | awarded r q _ _ _ _ _ _ =>
    exact h.keep (hring := fun hr => by simpa using s.changeLoads_ring _ _ _ _ _ hr) (hports := hports)
  | product a _ _ _ => exact h.keep (hproducts := fun hp => Table.wf_set hp) (hports := hports)
  | settings a _ => exact h.keep (hports := hports)
  | rescanned a _ => exact h.keep (hports := hports)
  | settlements =>
    exact h.keep (hissues := fun hi => Commitments.foldl_settle_issues _ _ _ hi) (hports := hports)
      (hregistry := id) (hintake := id) (hring := id) (haccounts := id) (hdispatch := id)

theorem Committed.canonical {s t : State} {r : Running} (h : s.Canonical) (c : Committed r s t) : t.Canonical := by
  have hports : ∀ p, (s.port p).Noted (t.port p) := fun p => c.noted (.refl _)
  cases c with
  | nothing => exact h
  | held a x id _ _ _ _ _ =>
    exact h.keep (hproducts := fun hp => hp) (hissues := fun hi => hi) (hring := fun hr => State.changeLoads_ring _ _ _ _ _ _ hr)
      (hports := hports)

theorem DispatchUnit.commitSetpoints_canonical {d : DispatchUnit} (h : d.Canonical) (l : List (Nat × Int)) :
    (d.commitSetpoints l).Canonical := by
  unfold DispatchUnit.commitSetpoints
  dsimp only
  generalize (List.range Config.numSites).filter _ = changed
  split
  · exact h
  · refine ⟨h.groups, ?_⟩
    dsimp only
    exact List.foldlRecOn (motive := fun t : Table Setpoint => Table.wf {} t = true) changed _ h.setpoints
      (fun _ ht _ _ => Table.wf_set ht)

/-- The Dispatch Unit that a commit leaves: the groups' records, then the setpoints that differ (R147, R152). -/
def State.committedUnit (s : State) (f : List (Nat × Int)) (g : List Nat) : DispatchUnit :=
  DispatchUnit.commitSetpoints { s.dsp with groups := Table.tabulate {} Config.numGroups (s.committedGroup f g) }
      (s.siteTargets (Table.tabulate {} Config.numGroups (s.committedGroup f g)))

theorem State.dispatchCommit_eq (s : State) (f : List (Nat × Int)) (g : List Nat) : ∃ short changed,
    s.dispatchCommit f g = (State.raiseIf { s with dsp := s.committedUnit f g } short .dispatchShort).raiseIf changed
      .setpointsChanged :=
  ⟨_, _, rfl⟩

@[simp] theorem State.dispatchCommit_frame (s : State) (f : List (Nat × Int)) (g : List Nat) :
    (s.dispatchCommit f g).supply = s.supply ∧ (s.dispatchCommit f g).cause = s.cause ∧ (s.dispatchCommit f g).mtu = s.mtu
    ∧ (s.dispatchCommit f g).frg = s.frg ∧ (s.dispatchCommit f g).tiu = s.tiu ∧ (s.dispatchCommit f g).cgr = s.cgr
    ∧ (s.dispatchCommit f g).cmt = s.cmt ∧ (s.dispatchCommit f g).acu = s.acu ∧ (s.dispatchCommit f g).dvu = s.dvu
    ∧ (s.dispatchCommit f g).pending = s.pending ∧ (s.dispatchCommit f g).dsp = s.committedUnit f g := by
  obtain ⟨b, c, h⟩ := s.dispatchCommit_eq f g
  rw [h]
  simp

theorem State.dispatchCommit_canonical {s : State} (h : s.Canonical) (f : List (Nat × Int)) (g : List Nat) :
    (s.dispatchCommit f g).Canonical :=
  h.keep (hports := fun p => State.dispatchCommit_noted f g (.refl _))
    (hdispatch := fun hd => by
      rw [(s.dispatchCommit_frame f g).2.2.2.2.2.2.2.2.2.2]
      unfold State.committedUnit
      refine DispatchUnit.commitSetpoints_canonical ?_ _
      constructor
      · exact Table.wf_tabulate
      · exact hd.setpoints)

@[simp] theorem State.initRing_frame (s : State) :
    s.initRing.supply = s.supply ∧ s.initRing.cause = s.cause ∧ s.initRing.mtu = s.mtu ∧ s.initRing.frg = s.frg
    ∧ s.initRing.tiu = s.tiu ∧ s.initRing.cmt = s.cmt ∧ s.initRing.acu = s.acu ∧ s.initRing.dsp = s.dsp
    ∧ s.initRing.dvu = s.dvu ∧ s.initRing.pending = s.pending := ⟨rfl, rfl, rfl, rfl, rfl, rfl, rfl, rfl, rfl, rfl⟩

@[simp] theorem State.stageRetirement_frame (s : State) (b : Nat) :
    (s.stageRetirement b).supply = s.supply ∧ (s.stageRetirement b).cause = s.cause ∧ (s.stageRetirement b).mtu = s.mtu
    ∧ (s.stageRetirement b).frg = s.frg ∧ (s.stageRetirement b).tiu = s.tiu ∧ (s.stageRetirement b).cmt = s.cmt
    ∧ (s.stageRetirement b).acu = s.acu ∧ (s.stageRetirement b).dsp = s.dsp ∧ (s.stageRetirement b).dvu = s.dvu
    ∧ (s.stageRetirement b).pending = s.pending := ⟨rfl, rfl, rfl, rfl, rfl, rfl, rfl, rfl, rfl, rfl⟩

@[simp] theorem State.orderIntervalEnd_frame (s : State) (p : Nat) :
    (s.orderIntervalEnd p).supply = s.supply ∧ (s.orderIntervalEnd p).cause = s.cause ∧ (s.orderIntervalEnd p).mtu = s.mtu
    ∧ (s.orderIntervalEnd p).frg = s.frg ∧ (s.orderIntervalEnd p).tiu = s.tiu ∧ (s.orderIntervalEnd p).cgr = s.cgr
    ∧ (s.orderIntervalEnd p).eng = s.eng ∧ (s.orderIntervalEnd p).cmt = s.cmt ∧ (s.orderIntervalEnd p).dsp = s.dsp
    ∧ (s.orderIntervalEnd p).dvu = s.dvu ∧ (s.orderIntervalEnd p).pending = s.pending
    ∧ (s.orderIntervalEnd p).acu.accounts = s.acu.accounts ∧ (s.orderIntervalEnd p).acu.uft = s.acu.uft
    ∧ (s.orderIntervalEnd p).acu.oft = s.acu.oft := ⟨rfl, rfl, rfl, rfl, rfl, rfl, rfl, rfl, rfl, rfl, rfl, rfl, rfl, rfl⟩

@[simp] theorem State.stageSnapshots_frame (s : State) (a : Table Account) (b : Nat) :
    (s.stageSnapshots a b).supply = s.supply ∧ (s.stageSnapshots a b).cause = s.cause ∧ (s.stageSnapshots a b).mtu = s.mtu
    ∧ (s.stageSnapshots a b).frg = s.frg ∧ (s.stageSnapshots a b).tiu = s.tiu ∧ (s.stageSnapshots a b).cgr = s.cgr
    ∧ (s.stageSnapshots a b).eng = s.eng ∧ (s.stageSnapshots a b).acu = s.acu ∧ (s.stageSnapshots a b).dsp = s.dsp
    ∧ (s.stageSnapshots a b).dvu = s.dvu ∧ (s.stageSnapshots a b).pending = s.pending
    ∧ (s.stageSnapshots a b).cmt.products = s.cmt.products ∧ (s.stageSnapshots a b).cmt.issues = s.cmt.issues
    ∧ (s.stageSnapshots a b).cmt.queue = s.cmt.queue := ⟨rfl, rfl, rfl, rfl, rfl, rfl, rfl, rfl, rfl, rfl, rfl, rfl, rfl, rfl⟩

@[simp] theorem State.stageNearRescan_frame (s : State) (b : Nat) :
    (s.stageNearRescan b).supply = s.supply ∧ (s.stageNearRescan b).cause = s.cause ∧ (s.stageNearRescan b).mtu = s.mtu
    ∧ (s.stageNearRescan b).frg = s.frg ∧ (s.stageNearRescan b).tiu = s.tiu ∧ (s.stageNearRescan b).eng = s.eng
    ∧ (s.stageNearRescan b).cmt = s.cmt ∧ (s.stageNearRescan b).acu = s.acu ∧ (s.stageNearRescan b).dsp = s.dsp
    ∧ (s.stageNearRescan b).dvu = s.dvu ∧ (s.stageNearRescan b).pending = s.pending
    ∧ (s.stageNearRescan b).cgr.ring = s.cgr.ring := s.rescan_frame _

@[simp] theorem State.rolloverEvent_units (s : State) (st : RolloverStage) :
    (s.rolloverEvent st).1.supply = s.supply ∧ (s.rolloverEvent st).1.cause = s.cause
    ∧ (s.rolloverEvent st).1.mtu = s.mtu ∧ (s.rolloverEvent st).1.frg = s.frg ∧ (s.rolloverEvent st).1.tiu = s.tiu
    ∧ (s.rolloverEvent st).1.dsp = s.dsp ∧ (s.rolloverEvent st).1.dvu = s.dvu
    ∧ (s.rolloverEvent st).1.pending = s.pending ∧ (s.rolloverEvent st).1.cmt.products = s.cmt.products := by
  unfold State.rolloverEvent
  split
  case h_2 => split <;> simp
  all_goals simp

theorem State.rolloverEvent_canonical {s : State} (h : s.Canonical) (st : RolloverStage) :
    (s.rolloverEvent st).1.Canonical := by
  have hports : ∀ p, (s.port p).Noted ((s.rolloverEvent st).1.port p) := fun p => State.rolloverEvent_noted st (.refl _)
  unfold State.rolloverEvent at hports ⊢
  split at hports
  case h_1 => exact h.keep (hring := fun _ => Table.wf_nil) (hports := hports)
  case h_2 b _ =>
    by_cases hlt : b < s.mtu.clock
    · simpa only [if_pos hlt] using h
    · simp only [if_neg hlt] at hports ⊢
      exact h.keep (hports := hports)
  case h_3 => exact h.keep (hissues := s.stageCompletion_issues _ _) (hports := hports)
  case h_4 => exact h.keep (hring := Table.wf_filter _) (hports := hports)
  case h_5 =>
    have hexpiry := s.stageExpiry_tables (s.eng.bookInterval.getD 0) ⟨h.issues, h.ring⟩
    exact h.keep (hissues := fun _ => hexpiry.1) (hring := fun _ => hexpiry.2) (hports := hports)
  all_goals exact h.keep (hports := hports)

/-- A rollup's result (R59): the site figures of its snapshot and the group sums of those. -/
def RollupSnapshot.sites (n : RollupSnapshot) : Table SiteResult := Table.tabulate {} Config.numSites n.siteResult

theorem State.rollupFigures_eq (s : State) (n : RollupSnapshot) : ∃ stale, s.rollupFigures n =
    State.raiseIf { s with tiu := { s.tiu with
      sites := n.sites, groups := Table.tabulate {} Config.numGroups (groupSums n.sites) } } stale .staleSites :=
  ⟨_, rfl⟩

theorem State.rollupEvent_canonical {s : State} (h : s.Canonical) (st : RollupStage) : (s.rollupEvent st).1.Canonical := by
  refine h.keep (hintake := fun hi => ?_) (hports := fun p => State.rollupEvent_noted st (.refl _))
  cases st with
  | figures n =>
    obtain ⟨stale, heq⟩ := s.rollupFigures_eq n
    rw [State.rollupEvent, heq, State.raiseIf_tiu]
    refine ⟨hi.raw, ?_, ?_⟩ <;> dsimp only
    · exact Table.wf_tabulate
    · exact Table.wf_tabulate
  | rescan => simp only [State.rollupEvent, State.rollupRescan]; split <;> simpa using hi
  | verify => simp only [State.rollupEvent, State.attribute]; split <;> exact hi
  | write l => simp only [State.rollupEvent, State.verificationWrite]; split <;> exact hi
  | snapshot => exact hi
  | trigger => simpa [State.rollupEvent] using hi

theorem PortState.takeSlot_canonical {x : PortState} (h : x.canonical = true) (k : Nat) (bytes : List Byte) :
    (x.takeSlot k bytes).canonical = true := by
  simp only [PortState.canonical, Bool.and_eq_true, PortState.takeSlot, PortState.newTransfer] at h ⊢
  exact ⟨Table.wf_set h.1, h.2⟩

theorem PortState.readTransfer_canonical {x : PortState} (h : x.canonical = true) (part : ReadPart) :
    (x.readTransfer part).canonical = true := by
  have hend : ∀ (y : PortState) (n : Nat), y.canonical = true → (y.endRead n).canonical = true := fun y n hy => by
    unfold PortState.endRead
    split
    · exact hy
    · dsimp only
      split
      · exact hy
      · split
        · simp only [PortState.canonical, Bool.and_eq_true] at hy ⊢
          exact ⟨Table.wf_set hy.1, hy.2⟩
        · exact hy
  cases part with
  | whole n => exact hend _ n h
  | typeByte => exact h
  | finish n => exact hend _ n h

@[simp] theorem State.setLevel_frame (s : State) (l : Line) (b : Bool) :
    (s.setLevel l b).supply = s.supply ∧ (s.setLevel l b).cause = s.cause ∧ (s.setLevel l b).mtu = s.mtu
    ∧ (s.setLevel l b).frg = s.frg ∧ (s.setLevel l b).tiu = s.tiu ∧ (s.setLevel l b).cgr = s.cgr
    ∧ (s.setLevel l b).eng = s.eng ∧ (s.setLevel l b).cmt = s.cmt ∧ (s.setLevel l b).dsp = s.dsp
    ∧ (s.setLevel l b).dvu = s.dvu ∧ (s.setLevel l b).pending = s.pending :=
  ⟨rfl, rfl, rfl, rfl, rfl, rfl, rfl, rfl, rfl, rfl, rfl⟩

@[simp] theorem State.deassertLine_frame (s : State) (l : Line) :
    (s.deassertLine l).supply = s.supply ∧ (s.deassertLine l).cause = s.cause ∧ (s.deassertLine l).mtu = s.mtu
    ∧ (s.deassertLine l).frg = s.frg ∧ (s.deassertLine l).tiu = s.tiu ∧ (s.deassertLine l).cgr = s.cgr
    ∧ (s.deassertLine l).eng = s.eng ∧ (s.deassertLine l).cmt = s.cmt ∧ (s.deassertLine l).dsp = s.dsp
    ∧ (s.deassertLine l).dvu = s.dvu ∧ (s.deassertLine l).pending = s.pending :=
  ⟨rfl, rfl, rfl, rfl, rfl, rfl, rfl, rfl, rfl, rfl, rfl⟩

@[simp] theorem tripWork_frame (e : TripEvent) (s : State) :
    (tripWork e s).supply = s.supply ∧ (tripWork e s).cause = s.cause ∧ (tripWork e s).mtu = s.mtu
    ∧ (tripWork e s).frg = s.frg ∧ (tripWork e s).tiu = s.tiu ∧ (tripWork e s).cgr = s.cgr
    ∧ (tripWork e s).cmt = s.cmt ∧ (tripWork e s).dsp = s.dsp ∧ (tripWork e s).dvu = s.dvu
    ∧ (tripWork e s).pending = s.pending := ⟨rfl, rfl, rfl, rfl, rfl, rfl, rfl, rfl, rfl, rfl⟩

theorem State.Canonical.congr {s t : State} (h : s.Canonical) (hcmt : t.cmt = s.cmt) (hfrg : t.frg = s.frg)
    (htiu : t.tiu = s.tiu) (hcgr : t.cgr = s.cgr) (haccounts : t.acu.accounts = s.acu.accounts) (hdsp : t.dsp = s.dsp)
    (hports : ∀ p, t.port p = s.port p) : t.Canonical where
  products := hcmt ▸ h.products
  issues := hcmt ▸ h.issues
  registry := hfrg ▸ h.registry
  intake := htiu ▸ h.intake
  ring := hcgr ▸ h.ring
  accounts := haccounts ▸ h.accounts
  dispatch := hdsp ▸ h.dispatch
  ports := fun p => hports p ▸ h.ports p

theorem State.lose_canonical {s : State} (h : s.Canonical) : s.lose.Canonical :=
  ⟨h.products, h.issues, h.registry, h.intake, h.ring, h.accounts, h.dispatch, fun p => by
    cases p
    · exact h.ports .market
    · exact h.ports .grid
    · exact h.ports .fleet⟩

theorem State.beginReset_of_running {s : State} (h : s.supply = .running) :
    s.beginReset .pin = { s.lose with supply := .held, cause := .pin } := by
  simp [State.beginReset, h]

theorem State.beginReset_of_stopped {s : State} (h : s.supply ≠ .running) : s.beginReset .pin = s := by
  cases hs : s.supply <;> simp_all [State.beginReset]

/-- A start: a dispatch job's copies its published targets (log 13); the others write the engine alone. -/
theorem State.choose_canonical {s : State} (h : s.Canonical) : s.choose.Canonical := by
  refine h.keep (hdispatch := fun hd => ?_) (hports := fun p => by simpa using .refl (s.port p))
  obtain heq | ⟨-, hstart⟩ := s.choose_started
  · rwa [heq]
  · generalize s.choose = t at hstart
    cases hstart with
    | dispatch _ => exact ⟨Table.wf_tabulate, hd.setpoints⟩
    | _ => exact hd

theorem Event.canonical {s t : State} (h : s.Canonical) (e : Event s t) : t.Canonical := by
  have hself : ∀ p, (s.port p).Noted (s.port p) := fun p => .refl _
  cases e with
  | reset c =>
    cases c with
    | powerOn => exact (State.lose_canonical h).congr rfl rfl rfl rfl rfl rfl (fun p => by cases p <;> rfl)
    | pin =>
      cases hsupply : s.supply with
      | off => rwa [State.beginReset_of_stopped (by simp [hsupply])]
      | held => rwa [State.beginReset_of_stopped (by simp [hsupply])]
      | running =>
        rw [State.beginReset_of_running hsupply]
        exact (State.lose_canonical h).congr rfl rfl rfl rfl rfl rfl (fun p => by cases p <;> rfl)
  | powerFail => exact (State.lose_canonical h).congr rfl rfl rfl rfl rfl rfl (fun p => by cases p <;> rfl)
  | level l b => exact h.keep (haccounts := by simp [State.setLevel]) (hports := fun p => State.noted_congr (hself p))
  | fall l => exact h.keep (haccounts := by simp [State.deassertLine]) (hports := fun p => State.noted_congr (hself p))
  | rise l => exact h.keep (hports := fun p => by simpa using hself p)
  | ignored p => exact h.withPort p (h.ports p)
  | discard p => exact h.withPort p (h.ports p)
  | take p k bytes => exact h.withPort p (PortState.takeSlot_canonical (h.ports p) k bytes)
  | reply p r => exact h.withPort p (h.ports p)
  | read p part => exact h.withPort p (PortState.readTransfer_canonical (h.ports p) part)
  | link p =>
    exact State.Canonical.withPort (h.congr (t := { s with eng := s.eng.linkReset p }) rfl rfl rfl rfl rfl rfl (fun p => by cases p <;> rfl)) p
      (x := { miso := .dontCare }) rfl
  | tick => exact State.dspTick_canonical (State.acuTick_canonical (State.mtuTick_canonical h))
  | pulse => exact State.ppsPulse_canonical h
  | accepted a => exact a.canonical h
  | join x => exact h.keep (hports := fun p => by simpa using hself p)
  | work r _ w => exact w.canonical h
  | commit r _ c => exact c.canonical h
  | trip e _ =>
    exact h.keep (haccounts := fun ha => by unfold tripWork; dsimp only; split <;> simpa using ha)
      (hports := fun p => tripWork_noted e (hself p))
  | dispatch f g _ => exact State.dispatchCommit_canonical h f g
  | rollover st st' _ _ =>
    exact (State.rolloverEvent_canonical h st).congr rfl rfl rfl rfl rfl rfl (fun p => by cases p <;> rfl)
  | rolloverLast b _ _ _ => exact h.congr rfl rfl rfl rfl rfl rfl (fun p => by cases p <;> rfl)
  | rollup st st' _ _ =>
    exact (State.rollupEvent_canonical h st).congr rfl rfl rfl rfl rfl rfl (fun p => by cases p <;> rfl)
  | rollupLast _ => exact h.keep (hports := fun p => by simpa using hself p)
  | endJob _ => exact h.congr rfl rfl rfl rfl rfl rfl (fun p => by cases p <;> rfl)
  | choose => exact State.choose_canonical h

theorem State.release_canonical {s : State} (h : s.Canonical) : s.release.Canonical := by
  unfold State.release
  split
  · exact ⟨rfl, rfl, ⟨rfl, rfl, rfl⟩, ⟨rfl, rfl, rfl⟩, rfl, rfl, ⟨rfl, rfl⟩, fun p => by cases p <;> rfl⟩
  · exact h
  · exact h

/-! ### The dirty set (R152) -/

theorem addDirty_ordered {l : List Nat} {i : Nat} (hl : l.Pairwise (fun i j => i < j)) (hn : ∀ j ∈ l, j < Config.numSites)
    (hi : i < Config.numSites) :
    (addDirty l i).Pairwise (fun i j => i < j) ∧ ∀ j ∈ addDirty l i, j < Config.numSites := by
  unfold addDirty
  split
  · exact ⟨hl, hn⟩
  · rename_i hnew
    refine ⟨insertBy_key_pairwise (key := id) (fun j hj => ?_) hl, fun j hj => ?_⟩
    · rintro rfl
      exact hnew hj
    · rcases mem_insertBy.mp hj with rfl | hj
      · exact hi
      · exact hn j hj

theorem DispatchUnit.commitSetpoints_dirtyOrdered {d : DispatchUnit} (h : d.dirtyOrdered) (l : List (Nat × Int)) :
    (d.commitSetpoints l).dirtyOrdered := by
  unfold DispatchUnit.commitSetpoints
  generalize hchanged : (List.range Config.numSites).filter _ = changed
  have hbelow : ∀ i ∈ changed, i < Config.numSites := by
    subst hchanged
    exact fun i hi => List.mem_range.mp (List.mem_of_mem_filter hi)
  dsimp only
  split
  · exact h
  · exact List.foldlRecOn (motive := fun m : List Nat => m.Pairwise (fun i j => i < j) ∧ ∀ i ∈ m, i < Config.numSites)
      changed _ h fun m hm i hi => addDirty_ordered hm.1 hm.2 (hbelow i hi)

@[simp] theorem State.dspTick_dirty (s : State) : s.dspTick.dsp.dirty = s.dsp.dirty := by
  simp [State.dspTick]

@[simp] theorem State.ppsPulse_dirty (s : State) : s.ppsPulse.dsp.dirty = s.dsp.dirty := by
  have hp := s.ppsPulse_pulsed
  generalize s.ppsPulse = t at hp
  cases hp with
  | ignored => rfl
  | starting n _ _ => simp
  | good =>
    unfold State.goodPulse
    dsimp only
    split <;> simp
  | stray => simp

theorem State.release_dirtyOrdered {s : State} (h : s.dsp.dirtyOrdered) : s.release.dsp.dirtyOrdered := by
  unfold State.release
  split
  · exact ⟨.nil, nofun⟩
  · exact h
  · exact h

theorem Event.dirtyOrdered {s t : State} (h : s.dsp.dirtyOrdered) (e : Event s t) : t.dsp.dirtyOrdered := by
  have stand : ∀ {u : State}, u.dsp.dirty = s.dsp.dirty → u.dsp.dirtyOrdered := fun {u} hu => by
    unfold DispatchUnit.dirtyOrdered
    rwa [hu]
  cases e with
  | reset c => 
    cases c with
    | powerOn => exact h
    | pin =>
      by_cases hrun : s.supply = .running
      · rw [State.beginReset_of_running hrun]; exact h
      · rwa [State.beginReset_of_stopped hrun]
  | tick => exact stand (by simp [State.tick, State.dspTick])
  | pulse => exact stand s.ppsPulse_dirty
  | accepted a =>
    cases a with
    | changes => exact ⟨h.1.sublist (List.drop_sublist ..), fun i hi => h.2 i (List.mem_of_mem_drop hi)⟩
    | _ => exact stand (by simp)
  | work r _ w => exact stand (by rw [w.frame.2.2.2.2.1])
  | commit r _ c => exact stand (by rw [c.frame.2.2.2.2.2.2.2.1])
  | dispatch f g _ =>
    rw [(s.dispatchCommit_frame f g).2.2.2.2.2.2.2.2.2.2]
    unfold State.committedUnit
    exact DispatchUnit.commitSetpoints_dirtyOrdered (by exact h) _
  | rollover st st' _ _ => exact stand (by simp)
  | choose =>
    obtain heq | ⟨-, hstart⟩ := s.choose_started
    · rwa [heq]
    · generalize s.choose = t at hstart
      cases hstart <;> exact h
  | rise l => exact stand (by simp)
  | join x => exact stand (by simp)
  | rollup st st' _ _ => exact stand (by simp)
  | rollupLast _ => exact stand (by simp)
  | ignored p | discard p | take p k b | reply p r | read p b | link p => cases p <;> exact h
  | powerFail | level l b | fall l | trip e _ | rolloverLast b _ _ _ | endJob _ => exact h

/-! ### The idle engine (R85) -/

theorem State.choose_settled (s : State) : s.choose.settled = true := by
  unfold State.settled
  cases hjob : s.eng.job with
  | some j => simp [hjob]
  | none =>
    cases hwork : s.eng.hasWork with
    | false => simp [State.choose_of_noWork s hwork, hwork]
    | true => simp [State.choose, hjob, s.startNext_job hwork]

theorem State.settled_of_stopped {s : State} (h : s.supply ≠ .running) : s.settled = true := by
  simp [State.settled, h]

theorem State.act_settled {s : State} (f : State → State) (h : s.settled = true) : (s.act f).settled = true := by
  by_cases hrun : s.supply = .running
  · rw [State.act_running s f hrun]
    exact State.choose_settled _
  · rwa [State.act_stopped s f hrun]

theorem State.transfer_settled {s : State} (p : Port) (f : State → State) (h : s.settled = true) :
    (s.transfer p f).settled = true := by
  by_cases hrun : s.supply = .running
  · rw [State.transfer_running s p f hrun]
    exact State.choose_settled _
  · obtain heq | heq := State.transfer_stopped s p f hrun
    · rwa [heq]
    · rw [heq]
      exact State.settled_of_stopped (by simpa using hrun)

theorem State.tickIf_settled {s : State} (due : Bool) (h : s.settled = true) : (s.tickIf due).settled = true := by
  unfold State.tickIf
  split
  · exact State.act_settled _ h
  · exact h

theorem State.jobRow_settled {α : Type} {s : State} (kind : Byte) (make : α → Request) (f : JobForm α) (h : s.settled = true) :
    (s.jobRow kind make f).settled = true := by
  cases f with
  | request p tag a =>
    have htransfer := State.transfer_settled p (fun s => s.present p tag (make a)) h
    unfold State.jobRow
    dsimp only
    split
    · exact State.act_settled _ htransfer
    · exact htransfer
  | job => exact State.act_settled _ h

theorem State.release_settled {s : State} (h : s.settled = true) : s.release.settled = true := by
  unfold State.release
  split
  · rfl
  · exact h
  · exact h

theorem exec_settled {i : Instr} {s t : State} (h : s.settled = true) (hexec : exec i s = .next t) : t.settled = true := by
  cases i <;> simp only [exec] at hexec
  case resetRelease => cases hexec; exact State.release_settled h
  case deviceReset c =>
    cases hexec
    cases c with
    | powerOn => rfl
    | pin =>
      by_cases hrun : s.supply = .running
      · rw [State.beginReset_of_running hrun]; rfl
      · rwa [State.beginReset_of_stopped hrun]
  case powerFail => cases hexec; rfl
  case tickEvent | ppsPulse | tripJob | rollover | rollup | dispatch => cases hexec; exact State.act_settled _ h
  case tripLineAssert l =>
    unfold execTripLineAssert at hexec
    split at hexec <;> cases hexec
    · exact State.act_settled _ h
    · exact State.settled_of_stopped (by simp [*])
    · exact State.settled_of_stopped (by simp [*])
  case tripLineDeassert l =>
    unfold execTripLineDeassert at hexec
    split at hexec <;> cases hexec
    · exact State.act_settled _ h
    · exact State.settled_of_stopped (by simp [*])
    · exact State.settled_of_stopped (by simp [*])
  case tripQualified l =>
    unfold execTripQualified at hexec
    split at hexec
    · cases hexec; exact State.act_settled _ h
    · split at hexec <;> cases hexec
      · exact State.act_settled _ h
      · exact h
  case secondMark | boundaryEvent | missingPulse | holdoverToFailed | rollupPeriodExpiry | sustainLimit | guardEnd =>
    cases hexec; exact State.tickIf_settled _ h
  case write | read | linkReset | timeSet | armTrip | configureGrid | readActivations | readCapture | clearCapture | telemetry
      | configureFleet | setpointChanges | readSetpoints | readStatus | readNotices | setAttention =>
    cases hexec; exact State.transfer_settled _ _ h
  all_goals cases hexec; exact State.jobRow_settled _ _ _ h

theorem step_settled {s t : State} (h : s.settled = true) (hstep : step s = .next t) : t.settled = true := by
  unfold step at hstep
  split at hstep
  · cases hstep; exact h
  · exact exec_settled (by exact h) hstep

/-- Settles O55: the canonical form and the dirty set from the elementary events, the idle engine from the choice that ends every
command of a running part. -/
theorem stepKeepsCanonicalAndSettled : Obligations.StepKeepsCanonicalAndSettled := by
  refine fun s t hstep => ⟨fun h => ?_, fun h => step_settled h hstep, fun h => ?_⟩
  · rw [State.canonical_iff] at h ⊢
    have hrest : State.Canonical { s with pending := s.pending.tail } :=
      h.congr rfl rfl rfl rfl rfl rfl (fun p => by cases p <;> rfl)
    obtain ⟨-, rfl⟩ | hrun := step_events hstep
    · exact State.release_canonical hrest
    · exact hrun.keep (fun _ _ hu e => e.canonical hu) hrest
  · obtain ⟨-, rfl⟩ | hrun := step_events hstep
    · exact State.release_dirtyOrdered (s := { s with pending := s.pending.tail }) h
    · exact hrun.keep (P := fun u => u.dsp.dirtyOrdered) (fun _ _ hu e => e.dirtyOrdered hu) h

end Sys2Proof.Machine
end

section
/-! PROOFS. The largest remainder division (R119, R127, R150): the floor shares, who is served one unit more, the sum and the
bounds; and from them the selection of groups and the allocation of shares (R117, R119). -/
namespace Sys2Proof.Machine

/-! ### Lists ranked by a predicate -/

/-- Where every element that satisfies `p` stands before every one that does not, the first of no more than there are satisfy
it. -/
theorem forall_mem_take_of_ranked {α : Type} {p : α → Bool} {l : List α} (hl : l.Pairwise (fun a b => p b = true → p a = true))
    {n : Nat} (hn : n ≤ (l.filter p).length) : ∀ x ∈ l.take n, p x = true := by
  induction l generalizing n with
  | nil => simp
  | cons y t ih =>
    obtain ⟨hy, ht⟩ := List.pairwise_cons.mp hl
    cases n with
    | zero => simp
    | succ n =>
      by_cases hp : p y = true
      · have hrest := ih ht (n := n) (by simpa [List.filter_cons, hp] using hn)
        simpa [hp] using hrest
      · have hnone : t.filter p = [] := List.filter_eq_nil_iff.mpr fun z hz h => hp (hy z hz h)
        simp [hp, hnone] at hn

theorem sum_map_add {α : Type} (l : List α) (f g : α → Nat) : (l.map (fun x => f x + g x)).sum = (l.map f).sum + (l.map g).sum := by
  induction l with
  | nil => rfl
  | cons x t ih => simp only [List.map_cons, List.sum_cons, ih]; omega

theorem sum_map_mul_left {α : Type} (l : List α) (c : Nat) (f : α → Nat) : (l.map (fun x => c * f x)).sum = c * (l.map f).sum := by
  induction l with
  | nil => rfl
  | cons x t ih => simp only [List.map_cons, List.sum_cons, ih, Nat.mul_add]

/-- A list of figures below `t` has at least as many that are not 0 as its sum has multiples of `t`. -/
theorem sum_le_mul_count_pos {t : Nat} (l : List Nat) (h : ∀ x ∈ l, x < t) : l.sum ≤ t * (l.filter (fun x => decide (0 < x))).length := by
  induction l with
  | nil => simp
  | cons x l ih =>
    have hx := h x List.mem_cons_self
    have hrest := ih fun y hy => h y (List.mem_cons_of_mem _ hy)
    by_cases hpos : 0 < x
    · simp only [List.sum_cons, List.filter_cons, hpos, decide_true, if_true, List.length_cons, Nat.mul_succ]
      omega
    · simp only [List.sum_cons, List.filter_cons, hpos, decide_false]
      simp only [Bool.false_eq_true, if_false]
      omega

/-- In a list without duplicate keys, a key names one element. -/
theorem eq_of_key_eq {α : Type} {key : α → Nat} {l : List α} (h : (l.map key).Nodup) {x y : α} (hx : x ∈ l) (hy : y ∈ l)
    (heq : key x = key y) : x = y := List.inj_on_of_nodup_map h hx hy heq

/-! ### The division -/

section
variable (q t : Nat) (weights : List (Nat × Nat))

/-- The rows of the division: a key, its floor share and its remainder. -/
def shareRows : List (Nat × Nat × Nat) := weights.map (fun w => (w.1, q * w.2 / t, q * w.2 % t))

/-- The larger remainder comes first, the lower key between equal ones. -/
def rankBefore (a b : Nat × Nat × Nat) : Bool := decide (a.2.2 > b.2.2 ∨ (a.2.2 = b.2.2 ∧ a.1 < b.1))

/-- The units that the floor shares leave. -/
def unitsLeft : Nat := q - (weights.map (fun w => q * w.2 / t)).sum

/-- The keys that take one unit more. -/
def servedKeys : List Nat := ((sortBy rankBefore (shareRows q t weights)).take (unitsLeft q t weights)).map (·.1)

theorem largestRemainder_eq : largestRemainder q t weights = weights.map (fun w =>
    (w.1, q * w.2 / t + if w.1 ∈ servedKeys q t weights then 1 else 0)) := by
  have hrows : (shareRows q t weights).map (fun r => r.2.1) = weights.map (fun w => q * w.2 / t) := by
    simp [shareRows]
  have hunfold : largestRemainder q t weights = (shareRows q t weights).map (fun r =>
      (r.1, if r.1 ∈ ((sortBy rankBefore (shareRows q t weights)).take
        (q - ((shareRows q t weights).map (fun r => r.2.1)).sum)).map (·.1) then r.2.1 + 1 else r.2.1)) := rfl
  rw [hunfold, hrows]
  change (shareRows q t weights).map (fun r => (r.1, if r.1 ∈ servedKeys q t weights then r.2.1 + 1 else r.2.1)) = _
  simp only [shareRows, List.map_map]
  refine List.map_congr_left fun w _ => ?_
  simp only [Function.comp_apply]
  split <;> rfl

@[simp] theorem largestRemainder_keys : (largestRemainder q t weights).map (·.1) = weights.map (·.1) := by
  rw [largestRemainder_eq, List.map_map]
  rfl

end

section
variable {q : Nat} {weights : List (Nat × Nat)} {t : Nat}

theorem rankBefore_trans (a b c : Nat × Nat × Nat) (hab : rankBefore a b = true) (hbc : rankBefore b c = true) :
    rankBefore a c = true := by
  simp only [rankBefore, decide_eq_true_eq] at *
  omega

variable (hkeys : (weights.map (·.1)).Nodup)
include hkeys

/-- The ranking is strict: keys are distinct. -/
theorem ranked_pairwise : (sortBy rankBefore (shareRows q t weights)).Pairwise (fun a b => rankBefore a b = true) := by
  refine sortBy_pairwise rankBefore_trans ?_
  rw [shareRows, List.pairwise_map]
  refine (List.pairwise_map.mp hkeys).imp fun hne => ?_
  simp only [rankBefore, decide_eq_true_eq]
  omega

theorem ranked_keys_nodup : ((sortBy rankBefore (shareRows q t weights)).map (·.1)).Nodup := by
  have hperm := (sortBy_perm rankBefore (shareRows q t weights)).map (·.1)
  rw [hperm.nodup_iff]
  simpa [shareRows, Function.comp_def] using hkeys

theorem servedKeys_nodup : (servedKeys q t weights).Nodup :=
  (ranked_keys_nodup hkeys).sublist ((List.take_sublist _ _).map _)

/-- A key served comes before, in the ranking, every key that is not. -/
theorem served_before {w v : Nat × Nat} (hw : w ∈ weights) (hv : v ∈ weights) (hserved : w.1 ∈ servedKeys q t weights)
    (hpassed : v.1 ∉ servedKeys q t weights) :
    q * v.2 % t < q * w.2 % t ∨ (q * v.2 % t = q * w.2 % t ∧ w.1 < v.1) := by
  have hmem : ∀ u ∈ weights, (u.1, q * u.2 / t, q * u.2 % t) ∈ sortBy rankBefore (shareRows q t weights) := fun u hu =>
    mem_sortBy.mpr (List.mem_map.mpr ⟨u, hu, rfl⟩)
  have hsplit := List.take_append_drop (unitsLeft q t weights) (sortBy rankBefore (shareRows q t weights))
  have hpair := ranked_pairwise (q := q) (t := t) hkeys
  rw [← hsplit, List.pairwise_append] at hpair
  obtain ⟨r, hr, hrw⟩ := List.mem_map.mp hserved
  have hrow : r = (w.1, q * w.2 / t, q * w.2 % t) :=
    eq_of_key_eq (key := (·.1)) (ranked_keys_nodup hkeys) (List.mem_of_mem_take hr) (hmem w hw) hrw
  have hvin := hmem v hv
  rw [← hsplit, List.mem_append] at hvin
  have hvdrop := hvin.resolve_left fun h => hpassed (List.mem_map.mpr ⟨_, h, rfl⟩)
  have hlt := hpair.2.2 r hr _ hvdrop
  subst hrow
  simp only [rankBefore, decide_eq_true_eq] at hlt
  omega

variable (ht : t = (weights.map (·.2)).sum) (hpos : 0 < t)

omit hkeys in
include ht in
/-- The floor shares and the remainders make up the whole quantity, `t` times. -/
theorem floors_and_remainders :
    t * (weights.map (fun w => q * w.2 / t)).sum + (weights.map (fun w => q * w.2 % t)).sum = t * q := by
  calc t * (weights.map (fun w => q * w.2 / t)).sum + (weights.map (fun w => q * w.2 % t)).sum
      = (weights.map (fun w => t * (q * w.2 / t) + q * w.2 % t)).sum := by rw [sum_map_add, sum_map_mul_left]
    _ = (weights.map (fun w => q * w.2)).sum := by simp only [Nat.div_add_mod]
    _ = t * q := by rw [sum_map_mul_left, ← ht, Nat.mul_comm]

omit hkeys in
include ht hpos in
theorem floors_le : (weights.map (fun w => q * w.2 / t)).sum ≤ q := by
  have h := floors_and_remainders (q := q) ht
  exact Nat.le_of_mul_le_mul_left (by omega : t * (weights.map (fun w => q * w.2 / t)).sum ≤ t * q) hpos

omit hkeys in
include ht in
/-- What the floors leave is the sum of the remainders, in units. -/
theorem unitsLeft_mul : t * unitsLeft q t weights = (weights.map (fun w => q * w.2 % t)).sum := by
  have h := floors_and_remainders (q := q) ht
  rw [unitsLeft, Nat.mul_sub]
  omega

omit hkeys in
include ht hpos in
/-- There are at least as many remainders as units left. -/
theorem unitsLeft_le : unitsLeft q t weights ≤ ((shareRows q t weights).filter (fun r => decide (0 < r.2.2))).length := by
  have hsum := sum_le_mul_count_pos (t := t) (weights.map (fun w => q * w.2 % t)) fun x hx => by
    obtain ⟨w, -, rfl⟩ := List.mem_map.mp hx
    exact Nat.mod_lt _ hpos
  rw [← unitsLeft_mul ht] at hsum
  have hle := Nat.le_of_mul_le_mul_left hsum hpos
  simpa [shareRows, List.filter_map, Function.comp_def] using hle

omit hkeys in
include ht hpos in
theorem servedKeys_length : (servedKeys q t weights).length = unitsLeft q t weights := by
  have hle := (unitsLeft_le (q := q) ht hpos).trans (List.length_filter_le _ _)
  simpa [servedKeys] using hle

include ht hpos in
/-- Only keys with a remainder are served. -/
theorem served_remainder_pos {w : Nat × Nat} (hw : w ∈ weights) (hserved : w.1 ∈ servedKeys q t weights) : 0 < q * w.2 % t := by
  have hranked : (sortBy rankBefore (shareRows q t weights)).Pairwise
      (fun a b => decide (0 < b.2.2) = true → decide (0 < a.2.2) = true) :=
    (ranked_pairwise hkeys).imp fun hab => by
      simp only [rankBefore, decide_eq_true_eq] at hab ⊢
      omega
  have hlen : unitsLeft q t weights
      ≤ ((sortBy rankBefore (shareRows q t weights)).filter (fun r => decide (0 < r.2.2))).length := by
    rw [((sortBy_perm rankBefore (shareRows q t weights)).filter _).length_eq]
    exact unitsLeft_le ht hpos
  obtain ⟨r, hr, hrw⟩ := List.mem_map.mp hserved
  have hrow : r = (w.1, q * w.2 / t, q * w.2 % t) :=
    eq_of_key_eq (key := (·.1)) (ranked_keys_nodup hkeys) (List.mem_of_mem_take hr)
      (mem_sortBy.mpr (List.mem_map.mpr ⟨w, hw, rfl⟩)) hrw
  have := forall_mem_take_of_ranked hranked hlen r hr
  simpa [hrow] using this

omit hkeys in
theorem servedKeys_subset : ∀ k ∈ servedKeys q t weights, k ∈ weights.map (·.1) := by
  intro k hk
  obtain ⟨r, hr, rfl⟩ := List.mem_map.mp hk
  obtain ⟨w, hw, rfl⟩ := List.mem_map.mp (mem_sortBy.mp (List.mem_of_mem_take hr))
  exact List.mem_map.mpr ⟨w, hw, rfl⟩

include ht hpos in
/-- The shares sum to the quantity. -/
theorem largestRemainder_sum : ((largestRemainder q t weights).map (·.2)).sum = q := by
  have hserved : (weights.map (fun w => if w.1 ∈ servedKeys q t weights then 1 else 0)).sum = unitsLeft q t weights := by
    have hcount : (weights.map (fun w => if w.1 ∈ servedKeys q t weights then 1 else 0)).sum
        = ((weights.map (·.1)).filter (fun k => decide (k ∈ servedKeys q t weights))).length := by
      generalize servedKeys q t weights = served
      clear hkeys ht
      induction weights with
      | nil => rfl
      | cons w l ih => by_cases h : w.1 ∈ served <;> simp [h, ih, Nat.add_comm]
    have hperm : ((weights.map (·.1)).filter (fun k => decide (k ∈ servedKeys q t weights))).Perm (servedKeys q t weights) := by
      refine (List.perm_ext_iff_of_nodup (hkeys.filter _) (servedKeys_nodup hkeys)).mpr fun k => ?_
      simp only [List.mem_filter, decide_eq_true_eq]
      exact ⟨fun h => h.2, fun h => ⟨servedKeys_subset k h, h⟩⟩
    rw [hcount, hperm.length_eq, servedKeys_length ht hpos]
  have hle := floors_le (q := q) ht hpos
  rw [largestRemainder_eq, List.map_map]
  change (weights.map (fun w => q * w.2 / t + if w.1 ∈ servedKeys q t weights then 1 else 0)).sum = q
  rw [sum_map_add, hserved, unitsLeft]
  omega

include ht hpos in
/-- No share passes its weight, for a quantity up to the total. -/
theorem share_le_weight (hq : q ≤ t) {w : Nat × Nat} (hw : w ∈ weights) :
    q * w.2 / t + (if w.1 ∈ servedKeys q t weights then 1 else 0) ≤ w.2 := by
  have hbound : q * w.2 ≤ t * w.2 := Nat.mul_le_mul_right _ hq
  have hdiv := Nat.div_add_mod (q * w.2) t
  split
  · rename_i hserved
    have hrem := served_remainder_pos hkeys ht hpos hw hserved
    exact Nat.lt_of_mul_lt_mul_left (by omega : t * (q * w.2 / t) < t * w.2)
  · exact Nat.le_of_mul_le_mul_left (by omega : t * (q * w.2 / t) ≤ t * w.2) hpos

omit hkeys in
include ht hpos in
/-- The whole total leaves no remainder. -/
theorem servedKeys_of_total (hq : q = t) : servedKeys q t weights = [] := by
  have hfloor : weights.map (fun w => q * w.2 / t) = weights.map (·.2) :=
    List.map_congr_left fun w _ => by rw [hq]; exact Nat.mul_div_cancel_left _ hpos
  have hzero : unitsLeft q t weights = 0 := by rw [unitsLeft, hfloor, ← ht, hq, Nat.sub_self]
  rw [servedKeys, hzero, List.take_zero, List.map_nil]

end

/-! ### The selection of groups (R117) -/

/-- The larger headroom comes first, the lower group between equal ones. -/
def headroomBefore (a b : Headroom) : Bool := decide (a.power > b.power ∨ (a.power = b.power ∧ a.group < b.group))

theorem selectGroups_eq (l : List Headroom) : selectGroups l = (sortBy headroomBefore (eligibleGroups l)).take 16 := rfl

theorem mem_selectGroups {l : List Headroom} {x : Headroom} (h : x ∈ selectGroups l) : x ∈ l ∧ 1 ≤ x.power := by
  have hmem := mem_sortBy.mp (List.mem_of_mem_take (selectGroups_eq l ▸ h))
  simpa [eligibleGroups] using hmem

theorem length_selectGroups (l : List Headroom) :
    (selectGroups l).length = min 16 (l.filter (fun x => decide (1 ≤ x.power))).length := by
  rw [selectGroups_eq, List.length_take, length_sortBy]
  rfl

section
variable {l : List Headroom} (h : (l.map (·.group)).Nodup)
include h

theorem rankedGroups_pairwise : (sortBy headroomBefore (eligibleGroups l)).Pairwise (fun a b => headroomBefore a b = true) := by
  refine sortBy_pairwise (fun a b c hab hbc => ?_) ?_
  · simp only [headroomBefore, decide_eq_true_eq] at *
    omega
  · refine ((List.pairwise_map.mp h).filter _).imp fun hne => ?_
    simp only [headroomBefore, decide_eq_true_eq]
    omega

theorem selectGroups_pairwise : (selectGroups l).Pairwise (fun a b => headroomBefore a b = true) :=
  (rankedGroups_pairwise h).sublist (List.take_sublist _ _)

/-- No group is passed over for a later one. -/
theorem selectGroups_first {x y : Headroom} (hx : x ∈ l) (hpower : 1 ≤ x.power) (hout : x ∉ selectGroups l)
    (hy : y ∈ selectGroups l) : headroomBefore y x = true := by
  have hsplit := List.take_append_drop 16 (sortBy headroomBefore (eligibleGroups l))
  have hpair := rankedGroups_pairwise h
  have hmem : x ∈ sortBy headroomBefore (eligibleGroups l) := by simp [eligibleGroups, hx, hpower]
  rw [← hsplit] at hpair hmem
  exact (List.pairwise_append.mp hpair).2.2 y hy x ((List.mem_append.mp hmem).resolve_left hout)

theorem selectGroups_nodup : ((selectGroups l).map (·.group)).Nodup := by
  refine ((sortBy_perm headroomBefore (eligibleGroups l)).map (·.group)).nodup_iff.mpr ?_ |>.sublist
    ((List.take_sublist 16 _).map _)
  exact h.sublist (List.filter_sublist.map _)

end

/-! ### The allocation of shares (R119, R127) -/

/-- The weights in ascending group. -/
def byGroup (weights : List (Nat × Nat)) : List (Nat × Nat) := sortBy (fun a b => decide (a.1 < b.1)) weights

theorem allocate_eq (q t : Nat) (weights : List (Nat × Nat)) : allocate q t weights =
    ((largestRemainder q t (byGroup weights)).filter (fun w => decide (w.2 ≠ 0))).map (fun w => ⟨w.1, w.2⟩) := rfl

@[simp] theorem mem_byGroup {weights : List (Nat × Nat)} {w : Nat × Nat} : w ∈ byGroup weights ↔ w ∈ weights := mem_sortBy

@[simp] theorem byGroup_sum (weights : List (Nat × Nat)) : ((byGroup weights).map (·.2)).sum = (weights.map (·.2)).sum :=
  ((sortBy_perm _ weights).map (·.2)).sum_nat

theorem sum_filter_ne_zero (l : List (Nat × Nat)) :
    ((l.filter (fun w => decide (w.2 ≠ 0))).map (·.2)).sum = (l.map (·.2)).sum := by
  induction l with
  | nil => rfl
  | cons w l ih => by_cases h : w.2 = 0 <;> simp [h, ← ih]

/-- The power that shares give to a group. -/
def powerOf (shares : List Share) (g : Nat) : Nat := ((shares.filter (fun x => decide (x.group = g))).map (·.power)).sum

/-- In shares of ascending group, a group has one share. -/
theorem filter_group_of_mem {l : List Share} (h : l.Pairwise (fun x y => x.group < y.group)) {x : Share} (hx : x ∈ l) :
    l.filter (fun y => decide (y.group = x.group)) = [x] := by
  induction l with
  | nil => cases hx
  | cons y t ih =>
    obtain ⟨hy, ht⟩ := List.pairwise_cons.mp h
    rcases List.mem_cons.mp hx with rfl | hx
    · have hnone : t.filter (fun z => decide (z.group = x.group)) = [] :=
        List.filter_eq_nil_iff.mpr fun z hz => by simpa using (hy z hz).ne'
      simp [hnone]
    · have hne := (hy x hx).ne
      simp [hne, ih ht hx]

section
variable {q : Nat} {weights : List (Nat × Nat)} (hkeys : (weights.map (·.1)).Nodup)
include hkeys

theorem byGroup_pairwise : (byGroup weights).Pairwise (fun a b => a.1 < b.1) := by
  have hsorted : (byGroup weights).Pairwise (fun a b => decide (a.1 < b.1) = true) := by
    refine sortBy_pairwise (fun a b c => by simpa using lt_trans) ((List.pairwise_map.mp hkeys).imp fun hne => ?_)
    simp only [decide_eq_true_eq]
    omega
  simpa using hsorted

theorem byGroup_nodup : ((byGroup weights).map (·.1)).Nodup :=
  ((sortBy_perm _ weights).map (·.1)).nodup_iff.mpr hkeys

theorem allocate_ordered (t : Nat) : (allocate q t weights).Pairwise (fun x y => x.group < y.group) := by
  have hlr : (largestRemainder q t (byGroup weights)).Pairwise (fun a b => a.1 < b.1) := by
    have hmap := List.pairwise_map.mpr (byGroup_pairwise hkeys)
    rw [← largestRemainder_keys q t] at hmap
    exact List.pairwise_map.mp hmap
  rw [allocate_eq, List.pairwise_map]
  exact hlr.filter _

variable {t : Nat} (ht : t = (weights.map (·.2)).sum) (hpos : 0 < t)
include ht hpos

theorem allocate_sum : ((allocate q t weights).map (·.power)).sum = q := by
  rw [allocate_eq, List.map_map]
  change ((List.filter _ _).map (fun w : Nat × Nat => w.2)).sum = q
  rw [sum_filter_ne_zero]
  exact largestRemainder_sum (byGroup_nodup hkeys) (by simpa using ht) hpos

omit hkeys ht hpos in
/-- Who holds a share: a group of the weights, its floor share or one more, and no share of 0. -/
theorem mem_allocate {x : Share} : x ∈ allocate q t weights ↔
    1 ≤ x.power ∧ ∃ w ∈ weights, x.group = w.1
      ∧ x.power = q * w.2 / t + if w.1 ∈ servedKeys q t (byGroup weights) then 1 else 0 := by
  rw [allocate_eq, largestRemainder_eq]
  simp only [List.mem_map, List.mem_filter, mem_byGroup, decide_eq_true_eq]
  constructor
  · rintro ⟨p, ⟨⟨w, hw, rfl⟩, hne⟩, rfl⟩
    exact ⟨Nat.one_le_iff_ne_zero.mpr hne, w, hw, rfl, rfl⟩
  · obtain ⟨g, power⟩ := x
    rintro ⟨hpower, w, hw, rfl, rfl⟩
    exact ⟨_, ⟨⟨w, hw, rfl⟩, by dsimp only at hpower ⊢; exact Nat.one_le_iff_ne_zero.mp hpower⟩, rfl⟩

omit ht hpos in
/-- The power of each group of the weights. -/
theorem powerOf_allocate {w : Nat × Nat} (hw : w ∈ weights) : powerOf (allocate q t weights) w.1 =
    q * w.2 / t + if w.1 ∈ servedKeys q t (byGroup weights) then 1 else 0 := by
  generalize hpower : (q * w.2 / t + if w.1 ∈ servedKeys q t (byGroup weights) then 1 else 0) = power
  have hordered := allocate_ordered (q := q) hkeys t
  have honly : ∀ x ∈ allocate q t weights, x.group = w.1 → x.power = power := fun x hx hgroup => by
    obtain ⟨-, v, hv, hvgroup, hvpower⟩ := mem_allocate.mp hx
    have hvw : v = w := eq_of_key_eq (key := (·.1)) hkeys hv hw (hvgroup.symm.trans hgroup)
    subst hvw
    exact hvpower.trans hpower
  by_cases hzero : power = 0
  · have hnone : ∀ y ∈ ((allocate q t weights).filter (fun x => decide (x.group = w.1))).map (·.power), y = 0 := by
      intro y hy
      obtain ⟨x, hx, rfl⟩ := List.mem_map.mp hy
      obtain ⟨hx, hgroup⟩ := List.mem_filter.mp hx
      rw [honly x hx (by simpa using hgroup), hzero]
    rw [powerOf, List.sum_eq_zero hnone, hzero]
  · have hmem : (⟨w.1, power⟩ : Share) ∈ allocate q t weights :=
      mem_allocate.mpr ⟨by dsimp only; omega, w, hw, rfl, hpower.symm⟩
    rw [powerOf, filter_group_of_mem hordered hmem]
    simp

end

/-- Settles O58, from the ranking of the eligible groups and the lemmas of the largest remainder division. -/
theorem allocationIsByLargestRemainder : Obligations.AllocationIsByLargestRemainder := by
  refine ⟨fun l hgroups => ⟨length_selectGroups l, fun x => mem_selectGroups, ?_, fun x hx hpower hout y hy => ?_, rfl⟩,
    fun q weights hq hkeys hweights => ?_⟩
  · exact (selectGroups_pairwise hgroups).imp fun hab => by simpa [headroomBefore] using hab
  · simpa [headroomBefore] using selectGroups_first hgroups hx hpower hout hy
  · intro total shares shareOf left htotal
    have hpos : 0 < total := by omega
    have hsorted : total = ((byGroup weights).map (·.2)).sum := (byGroup_sum weights).symm
    have hsum : (shares.map (·.power)).sum = q := allocate_sum hkeys rfl hpos
    have hshare : ∀ w ∈ weights, shareOf w.1 =
        q * w.2 / total + if w.1 ∈ servedKeys q total (byGroup weights) then 1 else 0 := fun w hw =>
      powerOf_allocate hkeys hw
    refine ⟨?_, hsum, allocate_ordered hkeys total, fun x hx => ?_, fun w hw => ?_, fun w hw v hv hserved hpassed => ?_,
      fun hall w hw => ?_⟩
    · intro hnil
      simp [hnil] at hsum
      omega
    · obtain ⟨hpower, w, hw, hgroup, hvalue⟩ := mem_allocate.mp hx
      refine ⟨hpower, w, hw, hgroup.symm, ?_⟩
      rw [hvalue]
      exact share_le_weight (byGroup_nodup hkeys) hsorted hpos htotal (mem_byGroup.mpr hw)
    · rw [hshare w hw]
      split
      · exact .inr ⟨rfl, served_remainder_pos (byGroup_nodup hkeys) hsorted hpos (mem_byGroup.mpr hw) ‹_›⟩
      · exact .inl rfl
    · rw [hshare w hw] at hserved
      rw [hshare v hv] at hpassed
      have hin : w.1 ∈ servedKeys q total (byGroup weights) := by
        by_contra hout
        simp [hout] at hserved
      have hout : v.1 ∉ servedKeys q total (byGroup weights) := fun hin' => by simp [hin'] at hpassed
      exact (served_before (byGroup_nodup hkeys) (mem_byGroup.mpr hw) (mem_byGroup.mpr hv) hin hout).imp_right
        (And.imp_right Nat.le_of_lt)
    · rw [hshare w hw, servedKeys_of_total hsorted hpos hall, hall]
      simpa using Nat.mul_div_cancel_left w.2 hpos

end Sys2Proof.Machine
end

section
/-! PROOFS. Rescans of the deficit list (5.5): what the list of a scope, or of the whole horizon, holds afterwards, in which order
and within which room, and when DEFICIT is raised. -/
namespace Sys2Proof.Machine

/-! ### Notice counts after a raise -/

theorem Notice.code_injective : Function.Injective Notice.code := by
  intro a b h
  cases a <;> cases b <;> first | rfl | cases h

@[simp] theorem State.count_raise (s : State) (p : Port) (k m : Notice) :
    (s.raise k).count p m = if m = k ∧ k.routed p = true then min 255 (s.count p m + 1) else s.count p m := by
  have hcode : m.code = k.code ↔ m = k := Notice.code_injective.eq_iff
  unfold State.count
  rw [State.port_raise]
  by_cases hroute : k.routed p = true
  · simp only [if_pos hroute, PortState.note, Table.get_modify, hcode, saturate]
    by_cases hk : m = k
    · simp [hk, hroute]
    · simp [hk]
  · simp [hroute]

theorem State.count_raiseIf (s : State) (p : Port) (b : Bool) (k m : Notice) : (s.raiseIf b k).count p m =
    if b = true ∧ m = k ∧ k.routed p = true then min 255 (s.count p m + 1) else s.count p m := by
  cases b <;> simp [State.raiseIf]

/-- A port's counts read the port alone. -/
theorem State.count_congr {s t : State} {p : Port} (h : t.port p = s.port p) (k : Notice) : t.count p k = s.count p k := by
  rw [State.count, State.count, h]

theorem routed_deficit_iff (p : Port) : Notice.deficit.routed p = true ↔ p ≠ .fleet := by
  cases p <;> decide

/-! ### Pairs and list order (R74) -/

/-- The pair that an entry names. -/
def Deficit.pair (d : Deficit) : Nat × Nat := (d.interval, d.group)

theorem Deficit.samePair_iff (a b : Deficit) : a.samePair b = true ↔ a.pair = b.pair := by
  simp [Deficit.samePair, Deficit.pair]

theorem Deficit.before_trans (a b c : Deficit) (hab : a.before b = true) (hbc : b.before c = true) : a.before c = true := by
  simp only [Deficit.before, decide_eq_true_eq] at *
  omega

theorem Deficit.before_or_before {a b : Deficit} (h : a.pair ≠ b.pair) : a.before b = true ∨ b.before a = true := by
  simp only [Deficit.pair, ne_eq, Prod.mk.injEq, Deficit.before, decide_eq_true_eq] at *
  omega

theorem Deficit.pair_ne_of_before {a b : Deficit} (h : a.before b = true) : a.pair ≠ b.pair := by
  simp only [Deficit.pair, ne_eq, Prod.mk.injEq, Deficit.before, decide_eq_true_eq] at *
  omega

/-- A deficit list in list order, hence without two entries of one pair. -/
abbrev DeficitsOrdered (l : List Deficit) : Prop := l.Pairwise (fun a b => a.before b = true)

theorem DeficitsOrdered.eq_of_pair {l : List Deficit} (h : DeficitsOrdered l) {a b : Deficit} (ha : a ∈ l) (hb : b ∈ l)
    (heq : a.pair = b.pair) : a = b := by
  have hpairs : (l.map Deficit.pair).Nodup := List.pairwise_map.mpr (h.imp Deficit.pair_ne_of_before)
  exact List.inj_on_of_nodup_map hpairs ha hb heq

/-- Entries formed for pairs, each of its own pair. -/
@[simp] theorem State.test_pair (s : State) (p : Nat × Nat) : (s.test p).pair = p := rfl

/-! ### Additions (R75 step 3) -/

/-- A list cut to `n`, with an insertion, cut again: the cut before the insertion leaves nothing out. -/
theorem take_insertBy_take {α : Type} (before : α → α → Bool) (x : α) (n : Nat) (l : List α) :
    (insertBy before x (l.take n)).take n = (insertBy before x l).take n := by
  induction l generalizing n with
  | nil => simp
  | cons y t ih =>
    cases n with
    | zero => simp
    | succ n =>
      simp only [List.take_succ_cons, insertBy]
      split
      · simp only [List.take_succ_cons]
        cases n with
        | zero => simp
        | succ n => simp [List.take_take]
      · simp [ih]

/-- All the additions to a list, with no limit to its room. -/
def insertAll (l found : List Deficit) : List Deficit := found.foldl (fun l d => insertBy Deficit.before d l) l

theorem insertAll_perm (l found : List Deficit) : (insertAll l found).Perm (found ++ l) := by
  induction found generalizing l with
  | nil => exact .refl _
  | cons d t ih => exact (ih _).trans (((insertBy_perm _ d l).append_left t).trans List.perm_middle)

@[simp] theorem mem_insertAll {l found : List Deficit} {d : Deficit} : d ∈ insertAll l found ↔ d ∈ found ∨ d ∈ l := by
  rw [(insertAll_perm l found).mem_iff, List.mem_append]

theorem length_insertAll (l found : List Deficit) : (insertAll l found).length = l.length + found.length := by
  rw [(insertAll_perm l found).length_eq, List.length_append, Nat.add_comm]

theorem insertAll_ordered {l found : List Deficit} (hl : DeficitsOrdered l) (hnew : ∀ d ∈ found, ∀ x ∈ l, d.pair ≠ x.pair)
    (hfound : (found.map Deficit.pair).Nodup) : DeficitsOrdered (insertAll l found) := by
  induction found generalizing l with
  | nil => exact hl
  | cons d t ih =>
    obtain ⟨hd, ht⟩ := List.nodup_cons.mp hfound
    refine ih ?_ (fun e he x hx => ?_) ht
    · exact insertBy_pairwise Deficit.before_trans
        (fun x hx => Deficit.before_or_before (hnew d List.mem_cons_self x hx)) hl
    · rcases mem_insertBy.mp hx with rfl | hx
      · exact fun heq => hd (heq ▸ List.mem_map.mpr ⟨e, he, rfl⟩)
      · exact hnew e (List.mem_cons_of_mem _ he) x hx

/-- One addition to the first 64 of a list leaves the first 64 of the list with it. -/
theorem Additions.add_list (a : Additions) (d : Deficit) (l : List Deficit) (h : a.list = l.take Config.deficitCapacity) :
    (a.add d).list = (insertBy Deficit.before d l).take Config.deficitCapacity
    ∧ ((a.add d).overflow = true ↔ a.overflow = true ∨ Config.deficitCapacity ≤ l.length)
    ∧ (l.length < Config.deficitCapacity → (a.add d).added = true) := by
  have hlen : a.list.length < Config.deficitCapacity ↔ l.length < Config.deficitCapacity := by
    simp [h, List.length_take, Config.deficitCapacity]
  unfold Additions.add
  rw [← take_insertBy_take Deficit.before d _ l, ← h]
  split
  · rename_i hroom
    have hroom' := hlen.mp hroom
    refine ⟨(List.take_of_length_le (by simpa using hroom)).symm, ?_, fun _ => rfl⟩
    simp only [Nat.not_le.mpr hroom', or_false]
  · rename_i hfull
    have hfull' := Nat.le_of_not_lt fun hlt => hfull (hlen.mpr hlt)
    split
    · exact ⟨rfl, by simp [hfull'], fun hlt => absurd hlt (Nat.not_lt.mpr hfull')⟩
    · rename_i hlast
      have hnone : ∀ x ∈ a.list, Deficit.before d x = false := by
        simpa using hlast
      refine ⟨?_, by simp [hfull'], fun hlt => absurd hlt (Nat.not_lt.mpr hfull')⟩
      have hexact : a.list.length = Config.deficitCapacity := by
        rw [h, List.length_take]
        exact Nat.min_eq_left hfull'
      rw [insertBy_of_all_before hnone, List.take_append_of_le_length hexact.ge, List.take_of_length_le hexact.le]

/-- The additions of a scope: the first 64 of all the entries, the flag when there are more, and whether one was made. -/
theorem additions_spec (l found : List Deficit) (a : Additions) (h : a.list = l.take Config.deficitCapacity) :
    (found.foldl Additions.add a).list = (insertAll l found).take Config.deficitCapacity
    ∧ ((found.foldl Additions.add a).overflow = true ↔
        a.overflow = true ∨ (found ≠ [] ∧ Config.deficitCapacity < l.length + found.length))
    ∧ (l.length + found.length ≤ Config.deficitCapacity →
        ((found.foldl Additions.add a).added = true ↔ a.added = true ∨ found ≠ [])) := by
  induction found generalizing l a with
  | nil => exact ⟨h, by simp, by simp⟩
  | cons d t ih =>
    obtain ⟨hlist, hover, hadded⟩ := a.add_list d l h
    obtain ⟨ilist, iover, iadded⟩ := ih (insertBy Deficit.before d l) (a.add d) hlist
    refine ⟨ilist, ?_, fun hroom => ?_⟩
    · rw [List.foldl_cons, iover, hover, length_insertBy]
      cases t with
      | nil => simp
      | cons e t =>
        simp only [List.length_cons, ne_eq, reduceCtorEq, not_false_eq_true, true_and, or_assoc]
        exact or_congr_right (by omega)
    · simp only [List.length_cons] at hroom
      rw [List.foldl_cons, iadded (by rw [length_insertBy]; omega)]
      simp [hadded (by omega)]

/-! ### A rescan of a scope (R75) -/

/-- Step 3 of R75: the pairs of the scope found in deficit and not listed before. -/
def State.foundIn (s : State) (scope : List (Nat × Nat)) : List Deficit :=
  (scope.map s.test).filter (fun d => d.kinds.any && !s.cgr.deficits.any (fun o => o.samePair d))

theorem State.mem_foundIn {s : State} {scope : List (Nat × Nat)} {d : Deficit} : d ∈ s.foundIn scope ↔
    d.pair ∈ scope ∧ d.kinds = s.kinds d.group d.interval ∧ d.kinds.any = true ∧ ∀ o ∈ s.cgr.deficits, o.pair ≠ d.pair := by
  simp only [State.foundIn, List.mem_filter, List.mem_map, Bool.and_eq_true, Bool.not_eq_true', List.any_eq_false,
    Deficit.samePair_iff]
  constructor
  · rintro ⟨⟨p, hp, rfl⟩, hany, hnew⟩
    exact ⟨hp, rfl, hany, hnew⟩
  · rintro ⟨hp, hkinds, hany, hnew⟩
    refine ⟨⟨d.pair, hp, ?_⟩, hany, hnew⟩
    cases d
    simp_all [State.test, Deficit.pair]

theorem State.mem_keepListed {s : State} {scope : List (Nat × Nat)} {d : Deficit} : d ∈ s.keepListed scope ↔
    (d ∈ s.cgr.deficits ∧ d.pair ∉ scope)
    ∨ (d.pair ∈ scope ∧ d.kinds = s.kinds d.group d.interval ∧ d.kinds.any = true ∧ ∃ o ∈ s.cgr.deficits, o.pair = d.pair) := by
  simp only [State.keepListed, List.mem_filterMap]
  constructor
  · rintro ⟨o, ho, h⟩
    split at h
    · rename_i hin
      split at h
      · cases h
        exact .inr ⟨hin, rfl, ‹_›, o, ho, rfl⟩
      · cases h
    · cases h
      exact .inl ⟨ho, ‹_›⟩
  · rintro (⟨hd, hout⟩ | ⟨hin, hkinds, hany, o, ho, hpair⟩)
    · exact ⟨d, hd, if_neg hout⟩
    · obtain ⟨hi, hg⟩ : o.interval = d.interval ∧ o.group = d.group := by simpa [Deficit.pair] using hpair
      have hin' : (o.interval, o.group) ∈ scope := by rw [hi, hg]; exact hin
      refine ⟨o, ho, ?_⟩
      rw [if_pos hin', hi, hg, if_pos (hkinds ▸ hany)]
      cases o
      cases d
      simp_all

/-- The kept entries name pairs that the list named, in its order. -/
theorem State.keepListed_ordered {s : State} (h : DeficitsOrdered s.cgr.deficits) (scope : List (Nat × Nat)) :
    DeficitsOrdered (s.keepListed scope) := by
  refine h.filterMap _ fun a b hab c hc d hd => ?_
  have hpair : ∀ o e : Deficit, (if (o.interval, o.group) ∈ scope then
      if (s.kinds o.group o.interval).any then some { o with kinds := s.kinds o.group o.interval } else none
    else some o) = some e → e.interval = o.interval ∧ e.group = o.group := fun o e he => by
    split at he
    · split at he <;> cases he
      exact ⟨rfl, rfl⟩
    · cases he
      exact ⟨rfl, rfl⟩
  obtain ⟨hci, hcg⟩ := hpair a c hc
  obtain ⟨hdi, hdg⟩ := hpair b d hd
  simpa [Deficit.before, hci, hcg, hdi, hdg] using hab

/-- All the entries that a rescan of a scope finds or leaves, with no limit to the list's room. -/
def State.merged (s : State) (scope : List (Nat × Nat)) : List Deficit := insertAll (s.keepListed scope) (s.foundIn scope)

section
variable {s : State} {scope : List (Nat × Nat)}

/-- The entries due after a rescan: those of other pairs, and the pairs of the scope in deficit, with the kinds found. -/
theorem State.mem_merged {d : Deficit} : d ∈ s.merged scope ↔
    (d ∈ s.cgr.deficits ∧ d.pair ∉ scope)
    ∨ (d.pair ∈ scope ∧ d.kinds = s.kinds d.group d.interval ∧ d.kinds.any = true) := by
  rw [State.merged, mem_insertAll, State.mem_foundIn, State.mem_keepListed]
  constructor
  · rintro (⟨hin, hkinds, hany, -⟩ | hout | ⟨hin, hkinds, hany, -⟩)
    · exact .inr ⟨hin, hkinds, hany⟩
    · exact .inl hout
    · exact .inr ⟨hin, hkinds, hany⟩
  · rintro (hout | ⟨hin, hkinds, hany⟩)
    · exact .inr (.inl hout)
    · by_cases hlisted : ∃ o ∈ s.cgr.deficits, o.pair = d.pair
      · exact .inr (.inr ⟨hin, hkinds, hany, hlisted⟩)
      · exact .inl ⟨hin, hkinds, hany, fun o ho heq => hlisted ⟨o, ho, heq⟩⟩

theorem State.merged_ordered (h : DeficitsOrdered s.cgr.deficits) (hscope : scope.Nodup) : DeficitsOrdered (s.merged scope) := by
  refine insertAll_ordered (State.keepListed_ordered h scope) (fun d hd x hx => ?_) ?_
  · obtain ⟨hin, -, -, hnew⟩ := State.mem_foundIn.mp hd
    rcases State.mem_keepListed.mp hx with ⟨hx, -⟩ | ⟨-, -, -, o, ho, hpair⟩
    · exact (hnew x hx).symm
    · exact fun heq => hnew o ho (hpair.trans heq.symm)
  · refine List.Nodup.sublist (List.filter_sublist.map _) ?_
    simpa [Function.comp_def] using hscope

theorem State.scopeRescan_deficits (h : s.cgr.deficits.length ≤ Config.deficitCapacity) :
    (s.scopeRescan scope).cgr.deficits = (s.merged scope).take Config.deficitCapacity
    ∧ ((s.scopeRescan scope).cgr.overflow = true ↔ Config.deficitCapacity < (s.merged scope).length)
    ∧ (s.scopeRescan scope).cgr.ring = s.cgr.ring := by
  have hkept : (s.keepListed scope).length ≤ Config.deficitCapacity := (List.length_filterMap_le ..).trans h
  obtain ⟨hlist, hover, -⟩ := additions_spec (s.keepListed scope) (s.foundIn scope) ⟨s.keepListed scope, false, false⟩
    (List.take_of_length_le hkept).symm
  refine ⟨?_, ?_, ?_⟩
  · rw [State.scopeRescan, State.raiseIf_cgr]
    exact hlist
  · rw [State.scopeRescan, State.raiseIf_cgr]
    refine hover.trans ?_
    rw [State.merged, length_insertAll]
    cases hfound : s.foundIn scope with
    | nil => simpa using hkept
    | cons d t => simp
  · rw [State.scopeRescan, State.raiseIf_cgr]

end

/-! ### A full scan (R76) -/

/-- Pairs in list order. -/
abbrev PairsOrdered (l : List (Nat × Nat)) : Prop := l.Pairwise (fun x y => x.1 < y.1 ∨ (x.1 = y.1 ∧ x.2 < y.2))

theorem PairsOrdered.nodup {l : List (Nat × Nat)} (h : PairsOrdered l) : l.Nodup := by
  refine h.imp fun {x y} hxy heq => ?_
  subst heq
  omega

theorem pairsOver_ordered (first count : Nat) : PairsOrdered (pairsOver first count) := by
  refine List.pairwise_flatMap.mpr ⟨fun i _ => ?_, ?_⟩
  · exact List.pairwise_map.mpr (List.pairwise_lt_range.imp fun hlt => .inr ⟨rfl, hlt⟩)
  · refine (List.pairwise_lt_range' 1).imp fun {i j} hlt x hx y hy => ?_
    obtain ⟨g, -, rfl⟩ := List.mem_map.mp hx
    obtain ⟨k, -, rfl⟩ := List.mem_map.mp hy
    exact .inl hlt

theorem mem_pairsOver {first count : Nat} {p : Nat × Nat} :
    p ∈ pairsOver first count ↔ (first ≤ p.1 ∧ p.1 < first + count) ∧ p.2 < Config.numGroups := by
  obtain ⟨i, g⟩ := p
  simp only [pairsOver, List.mem_flatMap, List.mem_range'_1, List.mem_map, List.mem_range, Prod.mk.injEq]
  constructor
  · rintro ⟨j, hj, k, hk, rfl, rfl⟩
    exact ⟨hj, hk⟩
  · rintro ⟨hi, hg⟩
    exact ⟨i, hi, g, hg, rfl, rfl⟩

/-- The pairs of the whole horizon in deficit. -/
def State.horizonDeficits (s : State) (b : Nat) : List Deficit :=
  ((pairsOver b Config.horizon).map s.test).filter (fun d => d.kinds.any)

theorem State.horizonDeficits_ordered (s : State) (b : Nat) : DeficitsOrdered (s.horizonDeficits b) := by
  refine List.Pairwise.filter _ (List.pairwise_map.mpr ((pairsOver_ordered b _).imp fun {x y} h => ?_))
  exact decide_eq_true h

theorem State.fullScan_deficits (s : State) (b : Nat) :
    (s.fullScan b).cgr.deficits = (s.horizonDeficits b).take Config.deficitCapacity
    ∧ (s.fullScan b).cgr.overflow = decide (Config.deficitCapacity < (s.horizonDeficits b).length)
    ∧ (s.fullScan b).cgr.ring = s.cgr.ring := by
  refine ⟨?_, ?_, ?_⟩ <;> rw [State.fullScan, State.raiseIf_cgr] <;> rfl

/-- Every rescan keeps the list in order and within its room. -/
theorem State.rescan_ordered {s : State} {scope : List (Nat × Nat)} (h : DeficitsOrdered s.cgr.deficits)
    (hroom : s.cgr.deficits.length ≤ Config.deficitCapacity) (hscope : scope.Nodup) :
    DeficitsOrdered (s.rescan scope).cgr.deficits ∧ (s.rescan scope).cgr.deficits.length ≤ Config.deficitCapacity := by
  unfold State.rescan
  split
  · exact ⟨h, hroom⟩
  · split
    · rw [(s.fullScan_deficits _).1]
      exact ⟨(s.horizonDeficits_ordered _).sublist (List.take_sublist _ _), List.length_take_le _ _⟩
    · rw [(State.scopeRescan_deficits hroom).1]
      exact ⟨(State.merged_ordered h (hscope.filter _)).sublist (List.take_sublist _ _), List.length_take_le _ _⟩

/-! ### The DEFICIT notice (R77) -/

/-- Whether an entry of the new list is added, or holds a kind that the old list's entry of its pair does not. -/
def AddedOrGained (old new : List Deficit) : Prop := ∃ d ∈ new, ∀ o ∈ old, o.pair = d.pair → o.kinds.gains d.kinds = true

theorem gainsKind_iff {old new : List Deficit} : gainsKind old new = true ↔
    ∃ n ∈ new, ∃ o ∈ old, o.pair = n.pair ∧ o.kinds.gains n.kinds = true := by
  simp [gainsKind, Deficit.samePair_iff]

/-- In an ordered list a pair's entry is the only one, so it says whether a kind is gained. -/
theorem addedOrGained_iff {old new : List Deficit} (h : DeficitsOrdered old) : AddedOrGained old new ↔
    (∃ d ∈ new, ∀ o ∈ old, o.pair ≠ d.pair) ∨ gainsKind old new = true := by
  rw [gainsKind_iff]
  constructor
  · rintro ⟨d, hd, hall⟩
    by_cases hlisted : ∃ o ∈ old, o.pair = d.pair
    · obtain ⟨o, ho, hpair⟩ := hlisted
      exact .inr ⟨d, hd, o, ho, hpair, hall o ho hpair⟩
    · exact .inl ⟨d, hd, fun o ho hpair => hlisted ⟨o, ho, hpair⟩⟩
  · rintro (⟨d, hd, hnew⟩ | ⟨d, hd, o, ho, hpair, hgains⟩)
    · exact ⟨d, hd, fun o ho hpair => absurd hpair (hnew o ho)⟩
    · refine ⟨d, hd, fun o' ho' hpair' => ?_⟩
      rw [h.eq_of_pair ho' ho (hpair'.trans hpair.symm)]
      exact hgains

theorem Kinds.gains_self (k : Kinds) : k.gains k = false := by
  simp [Kinds.gains]

/-- While the list keeps to its room, additions and gains are what raises DEFICIT. -/
theorem State.scopeRescan_added {s : State} {scope : List (Nat × Nat)} (h : DeficitsOrdered s.cgr.deficits)
    (hroom : s.cgr.deficits.length ≤ Config.deficitCapacity) (hfits : (s.merged scope).length ≤ Config.deficitCapacity) :
    ∃ b, (b = true ↔ AddedOrGained s.cgr.deficits (s.merged scope)) ∧
      ∀ p, (s.scopeRescan scope).count p .deficit = if b = true ∧ p ≠ .fleet then min 255 (s.count p .deficit + 1)
        else s.count p .deficit := by
  have hkept : (s.keepListed scope).length ≤ Config.deficitCapacity := (List.length_filterMap_le ..).trans hroom
  have hlen := length_insertAll (s.keepListed scope) (s.foundIn scope)
  obtain ⟨-, hover, hadded⟩ := additions_spec (s.keepListed scope) (s.foundIn scope) ⟨s.keepListed scope, false, false⟩
    (List.take_of_length_le hkept).symm
  replace hadded := hadded (hlen ▸ hfits)
  generalize ha : (s.foundIn scope).foldl Additions.add ⟨s.keepListed scope, false, false⟩ = a at hover hadded
  have hnone : a.overflow = false := by
    rw [← Bool.not_eq_true, hover]
    simp only [Bool.false_eq_true, false_or, not_and]
    exact fun _ => Nat.not_lt.mpr (hlen ▸ hfits)
  refine ⟨a.added || gainsKind s.cgr.deficits (s.keepListed scope), ?_, fun p => ?_⟩
  · rw [addedOrGained_iff h, Bool.or_eq_true, hadded]
    refine ⟨?_, ?_⟩
    · rintro ((hfalse | hfound) | hgains)
      · cases hfalse
      · obtain ⟨d, hd⟩ := List.exists_mem_of_ne_nil _ hfound
        exact .inl ⟨d, mem_insertAll.mpr (.inl hd), (State.mem_foundIn.mp hd).2.2.2⟩
      · obtain ⟨n, hn, rest⟩ := gainsKind_iff.mp hgains
        exact .inr (gainsKind_iff.mpr ⟨n, mem_insertAll.mpr (.inr hn), rest⟩)
    · have hlisted : ∀ d ∈ s.keepListed scope, ∃ o ∈ s.cgr.deficits, o.pair = d.pair := fun d hd =>
        (State.mem_keepListed.mp hd).elim (fun h => ⟨d, h.1, rfl⟩) (fun h => h.2.2.2)
      rintro (⟨d, hd, hnew⟩ | hgains)
      · rcases mem_insertAll.mp hd with hd | hd
        · exact .inl (.inr (List.ne_nil_of_mem hd))
        · obtain ⟨o, ho, hpair⟩ := hlisted d hd
          exact absurd hpair (hnew o ho)
      · obtain ⟨n, hn, rest⟩ := gainsKind_iff.mp hgains
        rcases mem_insertAll.mp hn with hn | hn
        · exact .inl (.inr (List.ne_nil_of_mem hn))
        · exact .inr (gainsKind_iff.mpr ⟨n, hn, rest⟩)
  · rw [State.scopeRescan]
    simp only [← State.foundIn.eq_1]
    rw [ha, State.count_raiseIf, hnone, Bool.or_false, State.count_congr (t := { s with cgr := _ }) (s := s) (by cases p <;> rfl)]
    simp only [routed_deficit_iff, true_and]

/-- A rescan that sets the flag raises DEFICIT. -/
theorem State.scopeRescan_overflow {s : State} {scope : List (Nat × Nat)} (hover : (s.scopeRescan scope).cgr.overflow = true)
    {p : Port} (hp : p ≠ .fleet) : (s.scopeRescan scope).count p .deficit = min 255 (s.count p .deficit + 1) := by
  rw [State.scopeRescan, State.raiseIf_cgr] at hover
  rw [State.scopeRescan, State.count_raiseIf, State.count_congr (t := { s with cgr := _ }) (s := s) (by cases p <;> rfl)]
  dsimp only at hover
  simp [hover, routed_deficit_iff, hp]

theorem State.fullScan_added {s : State} (h : DeficitsOrdered s.cgr.deficits) (b : Nat) :
    ∃ raised, (raised = true ↔ AddedOrGained s.cgr.deficits (s.fullScan b).cgr.deficits) ∧
      ∀ p, (s.fullScan b).count p .deficit = if raised = true ∧ p ≠ .fleet then min 255 (s.count p .deficit + 1)
        else s.count p .deficit := by
  refine ⟨((s.horizonDeficits b).take Config.deficitCapacity).any (fun n => !s.cgr.deficits.any (fun o => o.samePair n))
    || gainsKind s.cgr.deficits ((s.horizonDeficits b).take Config.deficitCapacity), ?_, fun p => ?_⟩
  · rw [addedOrGained_iff h, (s.fullScan_deficits b).1]
    simp [Deficit.samePair_iff]
  · rw [State.fullScan, State.count_raiseIf, State.count_congr (t := { s with cgr := _ }) (s := s) (by cases p <;> rfl)]
    simp only [routed_deficit_iff, true_and]
    rfl

theorem State.rescan_of_clear {s : State} {b : Nat} (hb : s.eng.bookInterval = some b) (ho : s.cgr.overflow = false)
    (scope : List (Nat × Nat)) : s.rescan scope = s.scopeRescan (scope.filter (fun p => s.eng.inHorizon p.1)) := by
  simp [State.rescan, hb, ho]

theorem State.rescan_of_overflow {s : State} {b : Nat} (hb : s.eng.bookInterval = some b) (ho : s.cgr.overflow = true)
    (scope : List (Nat × Nat)) : s.rescan scope = s.fullScan b := by
  simp [State.rescan, hb, ho]

theorem Engine.inHorizon_iff {e : Engine} {b : Nat} (hb : e.bookInterval = some b) (i : Nat) :
    e.inHorizon i = true ↔ b ≤ i ∧ i < b + 96 := by
  simp [Engine.inHorizon, hb]

/-- A rescan's scope in the horizon. -/
def State.scopeIn (s : State) (scope : List (Nat × Nat)) : List (Nat × Nat) := scope.filter (fun p => s.eng.inHorizon p.1)

/-- The first `n` of a longer list in list order: what is left out comes after all of them. -/
theorem DeficitsOrdered.take_of_longer {l : List Deficit} (h : DeficitsOrdered l) {n : Nat} (hn : n < l.length) :
    (l.take n).length = n ∧ DeficitsOrdered (l.take n) ∧ (∃ d ∈ l, d ∉ l.take n)
    ∧ ∀ d ∈ l, d ∉ l.take n → ∀ x ∈ l.take n, x.before d = true := by
  have hsplit := List.take_append_drop n l
  have hpairs : (l.take n ++ l.drop n).Pairwise (fun a b => a.before b = true) := hsplit.symm ▸ h
  obtain ⟨hfirst, -, hcross⟩ := List.pairwise_append.mp hpairs
  refine ⟨by rw [List.length_take]; exact Nat.min_eq_left hn.le, hfirst, ?_, fun d hd hout x hx => hcross x hx d ?_⟩
  · obtain ⟨d, hd⟩ := List.exists_mem_of_length_pos (l := l.drop n) (by rw [List.length_drop]; omega)
    exact ⟨d, List.mem_of_mem_drop hd, fun hin => Deficit.pair_ne_of_before (hcross d hin d hd) rfl⟩
  · rw [← hsplit, List.mem_append] at hd
    exact hd.resolve_left hout

/-- Whether a rescan raises DEFICIT (R77): an entry was added, a kind gained, or the flag set. -/
theorem State.rescan_notice {s : State} {b : Nat} (h : DeficitsOrdered s.cgr.deficits)
    (hroom : s.cgr.deficits.length ≤ Config.deficitCapacity) (hb : s.eng.bookInterval = some b) (scope : List (Nat × Nat)) :
    ((AddedOrGained s.cgr.deficits (s.rescan scope).cgr.deficits
        ∨ ((s.rescan scope).cgr.overflow = true ∧ s.cgr.overflow = false)) →
      ∀ p, p ≠ .fleet → (s.rescan scope).count p .deficit = min 255 (s.count p .deficit + 1))
    ∧ (¬AddedOrGained s.cgr.deficits (s.rescan scope).cgr.deficits →
      (s.rescan scope).cgr.overflow = s.cgr.overflow ∨ (s.rescan scope).cgr.overflow = false →
      ∀ p, (s.rescan scope).count p .deficit = s.count p .deficit) := by
  cases hclear : s.cgr.overflow with
  | true =>
    rw [State.rescan_of_overflow hb hclear]
    obtain ⟨raised, hiff, hcount⟩ := State.fullScan_added h b
    refine ⟨fun hraise p hp => ?_, fun hnone _ p => ?_⟩
    · rw [hcount p, if_pos ⟨hiff.mpr (hraise.resolve_right nofun), hp⟩]
    · rw [hcount p, if_neg fun hyes => hnone (hiff.mp hyes.1)]
  | false =>
    rw [State.rescan_of_clear hb hclear]
    obtain ⟨hlist, hflag, -⟩ := State.scopeRescan_deficits (s := s) (scope := s.scopeIn scope) hroom
    change (AddedOrGained _ (s.scopeRescan (s.scopeIn scope)).cgr.deficits ∨ _ → _)
      ∧ (¬AddedOrGained _ (s.scopeRescan (s.scopeIn scope)).cgr.deficits → _)
    by_cases hlen : (s.merged (s.scopeIn scope)).length ≤ Config.deficitCapacity
    · obtain ⟨raised, hiff, hcount⟩ := State.scopeRescan_added h hroom hlen
      have hquiet : (s.scopeRescan (s.scopeIn scope)).cgr.overflow ≠ true := fun hover => absurd hlen (Nat.not_le.mpr (hflag.mp hover))
      rw [hlist, List.take_of_length_le hlen]
      refine ⟨fun hraise p hp => ?_, fun hnone _ p => ?_⟩
      · exact (hcount p).trans (if_pos ⟨hiff.mpr (hraise.resolve_right fun hover => hquiet hover.1), hp⟩)
      · exact (hcount p).trans (if_neg fun hyes => hnone (hiff.mp hyes.1))
    · have hover := hflag.mpr (Nat.lt_of_not_le hlen)
      refine ⟨fun _ p hp => State.scopeRescan_overflow hover hp, fun _ hquiet => absurd hover ?_⟩
      have hfalse : (s.scopeRescan (s.scopeIn scope)).cgr.overflow = false := hquiet.elim id id
      simp [hfalse]

/-- Settles O60: with the flag clear the list is the first 64 of the entries due, with it set the first 64 of the horizon's. -/
theorem rescanListsPairsInDeficit : Obligations.RescanListsPairsInDeficit := by
  intro s scope b hinv hb hscope u found held added due
  have hdue : ∀ d, d ∈ s.merged (s.scopeIn scope) ↔ due d := fun d => by
    have hheld : d.pair ∈ s.scopeIn scope ↔ held d := by
      rw [State.scopeIn, List.mem_filter, Engine.inHorizon_iff hb]
      exact Iff.rfl
    rw [State.mem_merged, hheld]
  have hadded : added ↔ AddedOrGained s.cgr.deficits u.cgr.deficits := by
    simp [added, AddedOrGained, Deficit.pair, Kinds.gains, or_assoc]
  have hmerged := State.merged_ordered (s := s) (scope := s.scopeIn scope) hinv.deficit_order ((PairsOrdered.nodup hscope).filter _)
  obtain ⟨hlist, hflag, -⟩ := State.scopeRescan_deficits (s := s) (scope := s.scopeIn scope) hinv.deficit_room
  obtain ⟨-, -, -, -, htiu, heng, hcmt, -, -, -, -, hring⟩ := s.rescan_frame scope
  obtain ⟨hraise, hquiet⟩ := State.rescan_notice hinv.deficit_order hinv.deficit_room hb scope
  refine ⟨heng, hcmt, hring, htiu, fun hclear hfits d => ?_, fun hclear hover => ?_, fun hfull => ?_,
    fun h => hraise (h.imp_left hadded.mp), fun h => hquiet fun h' => h (hadded.mpr h')⟩
  · have hu : u = s.scopeRescan (s.scopeIn scope) := State.rescan_of_clear hb hclear scope
    have hlen := Nat.le_of_not_lt fun hlt => absurd (hflag.mpr hlt) (by rw [← hu, hfits]; nofun)
    rw [hu, hlist, List.take_of_length_le hlen]
    exact hdue d
  · have hu : u = s.scopeRescan (s.scopeIn scope) := State.rescan_of_clear hb hclear scope
    obtain ⟨hlen, hfirst, ⟨d, hd, hout⟩, hlater⟩ := hmerged.take_of_longer (hflag.mp (hu ▸ hover))
    rw [hu, hlist]
    exact ⟨hlen, hfirst, fun d hd => (hdue d).mp (List.mem_of_mem_take hd), ⟨d, (hdue d).mp hd, hout⟩,
      fun d hd => hlater d ((hdue d).mpr hd)⟩
  · have hu : u = s.fullScan b := State.rescan_of_overflow hb hfull scope
    obtain ⟨hlist, hflag, -⟩ := s.fullScan_deficits b
    have hfound : s.horizonDeficits b = found := by
      simp only [State.horizonDeficits, pairsOver, List.map_flatMap, List.map_map]
      rfl
    rw [hu, hlist, hflag, hfound]
    exact ⟨rfl, rfl⟩

end Sys2Proof.Machine
end

section
/-! PROOFS. The Book's collections and its records at every event (5.4, 7.1, 7.2, 8.6): the deficit list, the commitment
records with their shares and snapshots, the issue counters and the settlement queue. -/
namespace Sys2Proof.Machine

/-! ### Events that leave the Book -/

/-- An event that leaves the Book's tables, the Grid and b; a boundary's stage in progress goes on while the part runs, and an
ADMISSION job keeps its scratch or loses it. -/
structure State.Calm (s t : State) : Prop where
  cmt : t.cmt = s.cmt
  cgr : t.cgr = s.cgr
  groups : t.frg = s.frg
  book : t.eng.bookInterval = s.eng.bookInterval
  stage : t.supply = .running → s.supply = .running ∧
    ∀ st, s.eng.job = some (.rollover st) → st ≠ .between → t.eng.job = some (.rollover st)
  scratch : t.eng.scratch = none ∨ t.eng.scratch = s.eng.scratch
  admission : ∀ r, t.eng.job = some (.admission r) →
    ∃ r', s.eng.job = some (.admission r') ∧ r'.entry = r.entry ∧ t.eng.scratch = s.eng.scratch

namespace State.Calm

variable {s t : State}

theorem refl (s : State) : s.Calm s where
  cmt := rfl
  cgr := rfl
  groups := rfl
  book := rfl
  stage := fun h => ⟨h, fun _ hst _ => hst⟩
  scratch := .inr rfl
  admission := fun r hr => ⟨r, hr, rfl, rfl⟩

/-- Arrivals and events outside the engine. -/
theorem of_arrived (hcmt : t.cmt = s.cmt) (hcgr : t.cgr = s.cgr) (hfrg : t.frg = s.frg) (hsupply : t.supply = s.supply)
    (h : s.eng.Arrived t.eng) : s.Calm t where
  cmt := hcmt
  cgr := hcgr
  groups := hfrg
  book := h.bookInterval
  stage := fun hrun => ⟨hsupply ▸ hrun, fun _ hst _ => h.job_eq hst nofun⟩
  scratch := h.job.elim (fun hj => .inr hj.2) (fun hj => .inl hj.2.1)
  admission := fun r hr => ⟨r, (h.job_of_some hr).1, rfl, (h.job_of_some hr).2⟩

/-- Events that leave the engine's job and scratch. -/
theorem of_engine (hcmt : t.cmt = s.cmt) (hcgr : t.cgr = s.cgr) (hfrg : t.frg = s.frg) (hsupply : t.supply = s.supply)
    (hbook : t.eng.bookInterval = s.eng.bookInterval) (hjob : t.eng.job = s.eng.job) (hscratch : t.eng.scratch = s.eng.scratch) :
    s.Calm t where
  cmt := hcmt
  cgr := hcgr
  groups := hfrg
  book := hbook
  stage := fun hrun => ⟨hsupply ▸ hrun, fun _ hst _ => hjob.trans hst⟩
  scratch := .inr hscratch
  admission := fun r hr => ⟨r, hjob ▸ hr, rfl, hscratch⟩

/-- A device reset begins or power fails: the job is lost, and nothing runs until the release. -/
theorem of_lost (hcmt : t.cmt = s.cmt) (hcgr : t.cgr = s.cgr) (hfrg : t.frg = s.frg) (hsupply : t.supply ≠ .running)
    (hbook : t.eng.bookInterval = s.eng.bookInterval) (hjob : t.eng.job = none) (hscratch : t.eng.scratch = none) : s.Calm t where
  cmt := hcmt
  cgr := hcgr
  groups := hfrg
  book := hbook
  stage := fun hrun => absurd hrun hsupply
  scratch := .inl hscratch
  admission := fun _ hr => absurd (hjob.symm.trans hr) nofun

end State.Calm

@[simp] theorem State.ppsPulse_frame (s : State) :
    s.ppsPulse.cmt = s.cmt ∧ s.ppsPulse.cgr = s.cgr ∧ s.ppsPulse.frg = s.frg ∧ s.ppsPulse.supply = s.supply
    ∧ s.ppsPulse.dvu = s.dvu ∧ s.ppsPulse.cause = s.cause ∧ s.ppsPulse.pending = s.pending := by
  have hp := s.ppsPulse_pulsed
  generalize s.ppsPulse = t at hp
  cases hp with
  | ignored => simp
  | starting n _ _ => simp
  | good =>
    unfold State.goodPulse
    dsimp only
    split <;> simp
  | stray => simp

theorem State.linkReset_calm (s : State) (p : Port) : s.Calm (s.linkReset p) where
  cmt := by simp [State.linkReset]
  cgr := by simp [State.linkReset]
  groups := by simp [State.linkReset]
  book := by simp [State.linkReset, Engine.linkReset]
  stage := fun hrun => by
    refine ⟨by simpa [State.linkReset] using hrun, fun st hst _ => ?_⟩
    simp [State.linkReset, Engine.linkReset, hst, Job.orphaned]
  scratch := .inr (by simp [State.linkReset, Engine.linkReset])
  admission := fun r hr => by
    simp only [State.linkReset, State.withPort_eng, Engine.linkReset, Option.map_eq_some_iff] at hr
    obtain ⟨j, hj, ho⟩ := hr
    cases j <;> simp only [Job.orphaned, reduceCtorEq, Job.admission.injEq] at ho
    rename_i r'
    refine ⟨r', hj, ?_, by simp [State.linkReset, Engine.linkReset]⟩
    subst ho
    split <;> rfl

theorem State.beginReset_calm (s : State) (c : ResetCause) : s.Calm (s.beginReset c) := by
  cases c with
  | powerOn => exact .of_lost rfl rfl rfl nofun rfl rfl rfl
  | pin =>
    by_cases hrun : s.supply = .running
    · rw [State.beginReset_of_running hrun]
      exact .of_lost rfl rfl rfl nofun rfl rfl rfl
    · rw [State.beginReset_of_stopped hrun]
      exact .refl s

theorem Taken.calm {s t : State} (a : Taken s t) : s.Calm t := by
  cases a with
  | nothing => exact .refl s
  | notices p => exact .of_engine (by simp) (by simp) (by simp) (by simp) (by simp) (by simp) (by simp)
  | attention p m u => exact .of_engine (by simp) (by simp) (by simp) (by simp) (by simp) (by simp) (by simp)
  | _ => exact .of_engine rfl rfl rfl rfl rfl rfl rfl

/-- An event works the Book in a job, starts one, or leaves it. -/
theorem Event.book_cases {s t : State} (e : Event s t) : s.Calm t
    ∨ (∃ r, (s.eng.job = some (.order r) ∨ s.eng.job = some (.fleet r) ∨ s.eng.job = some (.book r)) ∧ Worked s t)
    ∨ (∃ r, s.eng.job = some (.admission r) ∧ Committed r s t)
    ∨ (∃ st st', s.eng.job = some (.rollover st) ∧ (s.rolloverEvent st).2 = some st'
        ∧ t = (s.rolloverEvent st).1.continueWith (some (.rollover st')))
    ∨ (∃ st st', s.eng.job = some (.rollup st) ∧ (s.rollupEvent st).2 = some st'
        ∧ t = (s.rollupEvent st).1.continueWith (some (.rollup st')))
    ∨ t = s.choose := by
  cases e with
  | work r hjob w => exact .inr (.inl ⟨r, hjob, w⟩)
  | commit r hjob c => exact .inr (.inr (.inl ⟨r, hjob, c⟩))
  | rollover st st' hjob h => exact .inr (.inr (.inr (.inl ⟨st, st', hjob, h, rfl⟩)))
  | rollup st st' hjob h => exact .inr (.inr (.inr (.inr (.inl ⟨st, st', hjob, h, rfl⟩))))
  | choose => exact .inr (.inr (.inr (.inr (.inr rfl))))
  | reset c => exact .inl (s.beginReset_calm c)
  | powerFail => exact .inl (.of_lost rfl rfl rfl nofun rfl rfl rfl)
  | tick => exact .inl (.of_arrived (by simp) (by simp) (by simp) (by simp) s.tick_arrived)
  | pulse => exact .inl (.of_arrived (by simp) (by simp) (by simp) (by simp) s.ppsPulse_arrived)
  | rise l => exact .inl (.of_arrived (by simp) (by simp) (by simp) (by simp) (State.assertLine_arrived l (.refl _)))
  | accepted a => exact .inl a.calm
  | join x => exact .inl (.of_arrived (by simp) (by simp) (by simp) (by simp) (s.enqueue_arrived x))
  | link p => exact .inl (s.linkReset_calm p)
  | rollupLast hjob =>
    exact .inl (.of_arrived (by simp) (by simp) (by simp) (by simp) (State.raiseDispatchIf_arrived _ (.refl _)))
  | dispatch f g _ => exact .inl (.of_engine (by simp) (by simp) (by simp) (by simp) (by simp) (by simp) (by simp))
  | endJob h =>
    exact .inl ⟨rfl, rfl, rfl, rfl, fun hrun => ⟨hrun, fun st hst hne => absurd (h st hst) hne⟩, .inl rfl, nofun⟩
  | reply p r =>
    exact .inl (.of_engine (by simp) (by simp) (by simp) (by simp) (by simp) (by simp) (by simp))
  | ignored p | discard p | take p k b | read p b =>
    exact .inl (.of_engine (by simp) (by simp) (by simp) (by simp) (by simp) (by simp) (by simp))
  | level l b | fall l | trip e _ | rolloverLast b _ _ _ => exact .inl (.of_engine rfl rfl rfl rfl rfl rfl rfl)

/-! ### The table of commitments (R95, R96, TABLE 7(a)) -/

/-- The part of the Book's invariant that the Commitment Table is: its records and the settlement queue. -/
structure Commitments.Fits (c : Commitments) : Prop where
  record_order : c.records.Pairwise (fun a b => a.id < b.id)
  record_id : ∀ r ∈ c.records, r.id < Config.numIds
  share_order : ∀ r ∈ c.records, r.shares.Pairwise (fun a b => a.group < b.group)
  queue_room : c.queue.length ≤ Config.settlementCapacity
  settling_full : (∃ r ∈ c.records, r.state = .settling) → c.queue.length = Config.settlementCapacity

theorem Commitments.Fits.id_inj {c : Commitments} (h : c.Fits) {r x : Commitment} (hr : r ∈ c.records) (hx : x ∈ c.records)
    (heq : r.id = x.id) : r = x := by
  have hids : (c.records.map (·.id)).Nodup := List.pairwise_map.mpr (h.record_order.imp (fun hlt => hlt.ne))
  exact List.inj_on_of_nodup_map hids hr hx heq

@[simp] theorem Commitments.mem_remove {c : Commitments} {i : Nat} {r : Commitment} :
    r ∈ (c.remove i).records ↔ r ∈ c.records ∧ r.id ≠ i := by
  simp [Commitments.remove]

@[simp] theorem Commitments.mem_place {c : Commitments} {r x : Commitment} :
    x ∈ (c.place r).records ↔ x = r ∨ x ∈ c.records := by
  simp [Commitments.place]

theorem Commitments.mem_replace {c : Commitments} {r x : Commitment} (hr : ∃ y ∈ c.records, y.id = r.id) :
    x ∈ (c.replace r).records ↔ x = r ∨ (x ∈ c.records ∧ x.id ≠ r.id) := by
  simp only [Commitments.replace, List.mem_map]
  constructor
  · rintro ⟨y, hy, rfl⟩
    split
    · exact .inl rfl
    · exact .inr ⟨hy, ‹_›⟩
  · rintro (rfl | ⟨hx, hne⟩)
    · obtain ⟨y, hy, hid⟩ := hr
      exact ⟨y, hy, if_pos hid⟩
    · exact ⟨x, hx, if_neg hne⟩

theorem Commitments.Fits.remove {c : Commitments} (h : c.Fits) (i : Nat) : (c.remove i).Fits where
  record_order := h.record_order.filter _
  record_id := fun r hr => h.record_id r (Commitments.mem_remove.mp hr).1
  share_order := fun r hr => h.share_order r (Commitments.mem_remove.mp hr).1
  queue_room := h.queue_room
  settling_full := fun ⟨r, hr, hst⟩ => h.settling_full ⟨r, (Commitments.mem_remove.mp hr).1, hst⟩

/-- Records replaced one by one, each under its own id and with its shares in order, none newly SETTLING unless the queue is
full. -/
theorem Commitments.Fits.mapped {c d : Commitments} (h : c.Fits) (f : Commitment → Commitment)
    (hid : ∀ r ∈ c.records, (f r).id = r.id)
    (hshares : ∀ r ∈ c.records, (f r).shares.Pairwise (fun a b => a.group < b.group))
    (hsettling : ∀ r ∈ c.records, (f r).state = .settling → r.state = .settling ∨ c.queue.length = Config.settlementCapacity)
    (hrecords : d.records = c.records.map f) (hqueue : d.queue = c.queue) : d.Fits where
  record_order := by
    rw [hrecords, List.pairwise_map]
    exact h.record_order.imp_of_mem fun ha hb hlt => by rwa [hid _ ha, hid _ hb]
  record_id := fun r hr => by
    obtain ⟨x, hx, rfl⟩ := List.mem_map.mp (hrecords ▸ hr)
    rw [hid x hx]
    exact h.record_id x hx
  share_order := fun r hr => by
    obtain ⟨x, hx, rfl⟩ := List.mem_map.mp (hrecords ▸ hr)
    exact hshares x hx
  queue_room := hqueue ▸ h.queue_room
  settling_full := fun ⟨r, hr, hst⟩ => by
    obtain ⟨x, hx, rfl⟩ := List.mem_map.mp (hrecords ▸ hr)
    rw [hqueue]
    exact (hsettling x hx hst).elim (fun hx' => h.settling_full ⟨x, hx, hx'⟩) id

theorem Commitments.Fits.replace {c : Commitments} (h : c.Fits) {r : Commitment}
    (hshares : r.shares.Pairwise (fun a b => a.group < b.group))
    (hsettling : r.state = .settling → c.queue.length = Config.settlementCapacity) : (c.replace r).Fits := by
  refine h.mapped (fun x => if x.id = r.id then r else x) (fun x _ => ?_) (fun x hx => ?_) (fun x hx hst => ?_) rfl rfl
  · split
    · exact Eq.symm ‹_›
    · rfl
  · split
    · exact hshares
    · exact h.share_order x hx
  · split at hst
    · exact .inr (hsettling hst)
    · exact .inl hst

theorem Commitments.Fits.place {c : Commitments} (h : c.Fits) {r : Commitment} (hid : r.id < Config.numIds)
    (hnew : ∀ x ∈ c.records, x.id ≠ r.id) (hshares : r.shares.Pairwise (fun a b => a.group < b.group))
    (hst : r.state ≠ .settling) : (c.place r).Fits where
  record_order := insertBy_key_pairwise (key := Commitment.id) hnew h.record_order
  record_id := fun x hx => (Commitments.mem_place.mp hx).elim (fun heq => heq ▸ hid) (h.record_id x)
  share_order := fun x hx => (Commitments.mem_place.mp hx).elim (fun heq => heq ▸ hshares) (h.share_order x)
  queue_room := h.queue_room
  settling_full := fun ⟨x, hx, hxst⟩ => (Commitments.mem_place.mp hx).elim (fun heq => absurd (heq ▸ hxst) hst)
    (fun hx => h.settling_full ⟨x, hx, hxst⟩)

/-! ### Settling a list of records (R104, R111) -/

section
variable (figures : Commitment → Figures) (l : List Commitment) (c : Commitments)

theorem Commitments.foldl_settle_queue :
    (l.foldl (fun c r => c.settle r (figures r)) c).queue = c.queue ++ l.map (fun r => r.settled (figures r)) := by
  induction l generalizing c with
  | nil => simp
  | cons r t ih =>
    have hsettle : (c.settle r (figures r)).queue = c.queue ++ [r.settled (figures r)] := rfl
    rw [List.foldl_cons, ih, hsettle, List.map_cons, List.append_assoc, List.singleton_append]

theorem Commitments.mem_foldl_settle {x : Commitment} : x ∈ (l.foldl (fun c r => c.settle r (figures r)) c).records ↔
    x ∈ c.records ∧ ∀ r ∈ l, x.id ≠ r.id := by
  induction l generalizing c with
  | nil => simp
  | cons r t ih =>
    have hremove : x ∈ (c.settle r (figures r)).records ↔ x ∈ c.records ∧ x.id ≠ r.id := Commitments.mem_remove
    rw [List.foldl_cons, ih, hremove]
    simp [and_assoc]

theorem Commitments.foldl_settle_sublist :
    (l.foldl (fun c r => c.settle r (figures r)) c).records.Sublist c.records := by
  induction l generalizing c with
  | nil => exact .refl _
  | cons r t ih => exact (ih _).trans List.filter_sublist

end

theorem Commitments.mem_settling {c : Commitments} {r : Commitment} :
    r ∈ c.settling ↔ r ∈ c.records ∧ r.state = .settling := by
  simp [Commitments.settling]

/-- READ_SETTLEMENT: as many SETTLING records move into the queue as leave it, while there are any (R111). -/
theorem readSettlementWork_fits {s : State} (h : s.cmt.Fits) : (readSettlementWork s).1.cmt.Fits := by
  change (List.foldl _ _ _ : Commitments).Fits
  generalize hmoving : s.cmt.settling.take (s.cmt.queue.take 4).length = moving
  have hlen : moving.length = min (min 4 s.cmt.queue.length) s.cmt.settling.length := by
    rw [← hmoving, List.length_take, List.length_take]
  have hroom := h.queue_room
  have hsub := Commitments.foldl_settle_sublist (fun r => r.figures.getD ⟨0, 0#32⟩) moving
    { s.cmt with queue := s.cmt.queue.drop 4 }
  have hqueue := congrArg List.length (Commitments.foldl_settle_queue (fun r => r.figures.getD ⟨0, 0#32⟩) moving
    { s.cmt with queue := s.cmt.queue.drop 4 })
  simp only [List.length_append, List.length_drop, List.length_map, Config.settlementCapacity] at hqueue hroom ⊢
  refine ⟨h.record_order.sublist hsub, fun r hr => h.record_id r (hsub.subset hr),
    fun r hr => h.share_order r (hsub.subset hr), by simp only [hqueue, Config.settlementCapacity]; omega, ?_⟩
  rintro ⟨r, hr, hst⟩
  obtain ⟨hr, hout⟩ := (Commitments.mem_foldl_settle _ _ _).mp hr
  have hfull := h.settling_full ⟨r, hr, hst⟩
  have hmore : moving.length < s.cmt.settling.length := by
    by_contra hall
    have hwhole : moving = s.cmt.settling := by
      rw [← hmoving]
      refine List.take_of_length_le ?_
      simp only [List.length_take]
      omega
    exact hout r (hwhole ▸ Commitments.mem_settling.mpr ⟨hr, hst⟩) rfl
  simp only [Config.settlementCapacity] at hfull
  simp only [hqueue, Config.settlementCapacity]
  omega

/-! ### The commitments at every event -/

theorem Commitments.lowestEligible_eq {c : Commitments} {i : Nat} (h : c.lowestEligible = some i) :
    i < Config.numIds ∧ (∀ x ∈ c.records, x.id ≠ i) ∧ ∀ q ∈ c.queue, q.id = i → q.issue ≠ c.issue i := by
  unfold Commitments.lowestEligible at h
  generalize hids : List.range Config.numIds = ids at h
  have hin : i ∈ List.range Config.numIds := hids ▸ List.mem_of_find?_eq_some h
  have helig := List.find?_some h
  simp only [Commitments.eligible, Bool.and_eq_true, Option.isNone_iff_eq_none, Bool.not_eq_true', List.any_eq_false,
    Commitments.record, List.find?_eq_none, beq_iff_eq, not_and] at helig
  obtain ⟨hrecords, hqueue⟩ := helig
  exact ⟨List.mem_range.mp hin, hrecords, hqueue⟩

theorem Commitment.reduced_ordered {r : Commitment} (h : r.shares.Pairwise (fun a b => a.group < b.group)) (q : Nat) :
    (r.reduced q).shares.Pairwise (fun a b => a.group < b.group) := by
  refine allocate_ordered ?_ _
  simp only [List.map_map]
  exact List.pairwise_map.mpr (h.imp fun hlt => hlt.ne)

theorem Worked.commitments {s t : State} (h : s.cmt.Fits) (w : Worked s t) : t.cmt.Fits := by
  cases w with
  | dropped r _ _ => simpa using h.remove r.id
  | awarded r q hrec _ _ _ _ _ =>
    obtain ⟨hr, -⟩ := Commitments.record_mem hrec
    rw [(State.rescan_frame _ _).2.2.2.2.2.2.1]
    exact h.replace (Commitment.reduced_ordered (h.share_order r hr) q) nofun
  | settlements => exact readSettlementWork_fits h
  | product a _ _ _ => exact ⟨h.record_order, h.record_id, h.share_order, h.queue_room, h.settling_full⟩
  | forecasts g i l => simpa using h
  | rescanned a _ => simpa using h
  | _ => exact h

theorem State.completeRecord_fits {s : State} (h : s.cmt.Fits) (a : Table Account) {r : Commitment}
    (hr : r.shares.Pairwise (fun a b => a.group < b.group)) : (State.completeRecord a s r).cmt.Fits := by
  unfold State.completeRecord
  dsimp only
  rw [State.raise_cmt]
  dsimp only
  have hroom := h.queue_room
  split
  · rename_i hspace
    have hnone : ¬∃ r ∈ s.cmt.records, r.state = .settling := fun hsettling => by
      have := h.settling_full hsettling
      omega
    have hgone := h.remove r.id
    refine ⟨hgone.record_order, hgone.record_id, hgone.share_order, ?_, fun ⟨x, hx, hst⟩ => ?_⟩
    · simp only [Commitments.settle, List.length_append, List.length_singleton]
      omega
    · exact absurd ⟨x, (Commitments.mem_remove.mp hx).1, hst⟩ hnone
  · exact h.replace hr fun _ => by omega

theorem State.stageCompletion_fits {s : State} (h : s.cmt.Fits) (a : Table Account) (b : Nat) :
    (s.stageCompletion a b).cmt.Fits := by
  unfold State.stageCompletion
  have hl : ∀ r ∈ s.cmt.records.filter (fun r => r.state == .awarded && r.last == b),
      r.shares.Pairwise (fun a b => a.group < b.group) := fun r hr => h.share_order r (List.mem_of_mem_filter hr)
  exact List.foldlRecOn (motive := fun u : State => u.cmt.Fits) _ _ h fun u hu r hr => State.completeRecord_fits hu a (hl r hr)

theorem State.stageExpiry_fits {s : State} (h : s.cmt.Fits) (b : Nat) : (s.stageExpiry b).cmt.Fits := by
  unfold State.stageExpiry
  exact List.foldlRecOn (motive := fun u : State => u.cmt.Fits) _ _ h fun u hu r _ => by simpa using hu.remove r.id

theorem State.stageSnapshots_fits {s : State} (h : s.cmt.Fits) (a : Table Account) (b : Nat) : (s.stageSnapshots a b).cmt.Fits := by
  refine h.mapped (fun r => if r.state = .awarded ∧ r.first = b then { r with snapshot := some (accountOf a r.product) } else r)
    (fun r _ => ?_) (fun r hr => ?_) (fun r _ hst => ?_) rfl rfl
  · split <;> rfl
  · split <;> exact h.share_order r hr
  · split at hst <;> exact .inl hst

theorem State.attribute_fits {s : State} (h : s.cmt.Fits) (l : List Shortfall) : (s.attribute l).cmt.Fits := by
  unfold State.attribute
  split
  · exact h
  · rename_i b _
    refine h.mapped (fun r => if r.state = .awarded ∧ r.covers b = true then
      { r with shortfalls := saturate 65535 (r.shortfalls + r.timesShort l) } else r)
      (fun r _ => ?_) (fun r hr => ?_) (fun r _ hst => ?_) rfl rfl
    · split <;> rfl
    · split <;> exact h.share_order r hr
    · split at hst <;> exact .inl hst

theorem State.rolloverEvent_fits {s : State} (h : s.cmt.Fits) (st : RolloverStage) : (s.rolloverEvent st).1.cmt.Fits := by
  unfold State.rolloverEvent
  split
  case h_2 => split <;> exact h
  case h_3 => exact State.stageCompletion_fits h _ _
  case h_5 => exact State.stageExpiry_fits h _
  case h_9 => exact State.stageSnapshots_fits h _ _
  case h_10 => simpa using h
  all_goals exact h

theorem State.rollupEvent_fits {s : State} (h : s.cmt.Fits) (st : RollupStage) : (s.rollupEvent st).1.cmt.Fits := by
  cases st with
  | snapshot => exact h
  | figures n =>
    obtain ⟨stale, heq⟩ := s.rollupFigures_eq n
    rw [State.rollupEvent, heq, State.raiseIf_cmt]
    exact h
  | rescan => simp only [State.rollupEvent, State.rollupRescan]; split <;> simpa using h
  | verify => exact State.attribute_fits h _
  | write l => simp only [State.rollupEvent, State.verificationWrite]; split <;> exact h
  | trigger => simpa [State.rollupEvent] using h

/-! ### The deficit list at every event (R74) -/

/-- The deficit list in list order and within its room. -/
def Grid.Fits (c : Grid) : Prop := DeficitsOrdered c.deficits ∧ c.deficits.length ≤ Config.deficitCapacity

theorem State.rescan_fits {s : State} {scope : List (Nat × Nat)} (h : s.cgr.Fits) (hscope : scope.Nodup) :
    (s.rescan scope).cgr.Fits := State.rescan_ordered h.1 h.2 hscope

@[simp] theorem Grid.writeForecasts_list (c : Grid) (g i : Nat) (l : List ForecastArgs) :
    (c.writeForecasts g i l).deficits = c.deficits ∧ (c.writeForecasts g i l).overflow = c.overflow := by
  induction l generalizing c i with
  | nil => exact ⟨rfl, rfl⟩
  | cons e t ih => exact ih _ _

@[simp] theorem State.changeLoads_list (s : State) (first count : Nat) (l : List Share) (f : Share → Quad)
    (op : Quad → Quad → Quad) : (s.changeLoads first count l f op).cgr.deficits = s.cgr.deficits
    ∧ (s.changeLoads first count l f op).cgr.overflow = s.cgr.overflow := by
  unfold State.changeLoads
  exact List.foldlRecOn (motive := fun c : Grid => c.deficits = s.cgr.deficits ∧ c.overflow = s.cgr.overflow) _ _ ⟨rfl, rfl⟩
    fun c hc _ _ => hc

theorem State.sharePairs_nodup (s : State) {first count : Nat} {l : List Share} (h : l.Pairwise (fun a b => a.group < b.group)) :
    (s.sharePairs first count l).Nodup := by
  refine List.nodup_flatMap.mpr ⟨fun i _ => ?_, ?_⟩
  · exact List.pairwise_map.mpr (h.imp fun hlt heq => by simp only [Prod.mk.injEq, true_and] at heq; omega)
  · refine (List.Nodup.filter _ (List.nodup_range' (s := first) (n := count))).imp fun {i j} hne => ?_
    simp only [Function.onFun, List.disjoint_left, List.mem_map]
    rintro p ⟨x, -, rfl⟩ ⟨y, -, heq⟩
    exact hne (Prod.mk.injEq .. ▸ heq).1.symm

theorem State.dropCommitment_fits {s : State} (h : s.cgr.Fits) {r : Commitment}
    (hr : r.shares.Pairwise (fun a b => a.group < b.group)) : (s.dropCommitment r).cgr.Fits := by
  refine State.rescan_fits ?_ (s.sharePairs_nodup hr)
  simpa [Grid.Fits, State.subtractLoads] using h

theorem Worked.deficits {s t : State} (hc : s.cmt.Fits) (h : s.cgr.Fits) (w : Worked s t) : t.cgr.Fits := by
  cases w with
  | forecasts g i l =>
    refine State.rescan_fits (by simpa [Grid.Fits] using h) ?_
    exact (List.nodup_range' (s := i) (n := l.length)).map fun _ _ heq => (Prod.mk.inj heq).1
  | dropped r hrec _ => exact State.dropCommitment_fits h (hc.share_order r (Commitments.record_mem hrec).1)
  | awarded r q hrec _ _ _ _ _ =>
    refine State.rescan_fits ?_ (s.sharePairs_nodup (hc.share_order r (Commitments.record_mem hrec).1))
    simpa [Grid.Fits] using h
  | rescanned a _ => exact State.rescan_fits h (pairsOver_ordered _ _).nodup
  | _ => exact h

theorem State.stageExpiry_deficits {s : State} (hc : s.cmt.Fits) (h : s.cgr.Fits) (b : Nat) : (s.stageExpiry b).cgr.Fits := by
  unfold State.stageExpiry
  refine List.foldlRecOn (motive := fun u : State => u.cgr.Fits) _ _ h fun u hu r hr => ?_
  rw [State.raise_cgr]
  exact State.dropCommitment_fits hu (hc.share_order r (List.mem_of_mem_filter hr))

theorem State.rolloverEvent_deficits {s : State} (hc : s.cmt.Fits) (h : s.cgr.Fits) (st : RolloverStage) :
    (s.rolloverEvent st).1.cgr.Fits := by
  unfold State.rolloverEvent
  split
  case h_2 => split <;> exact h
  case h_3 => simpa using h
  case h_4 => exact ⟨h.1.filter _, (List.length_filter_le _ _).trans h.2⟩
  case h_5 => exact State.stageExpiry_deficits hc h _
  case h_10 => exact State.rescan_fits h (pairsOver_ordered _ _).nodup
  all_goals exact h

theorem State.rollupEvent_deficits {s : State} (h : s.cgr.Fits) (st : RollupStage) : (s.rollupEvent st).1.cgr.Fits := by
  cases st with
  | snapshot => exact h
  | figures n =>
    obtain ⟨stale, heq⟩ := s.rollupFigures_eq n
    rw [State.rollupEvent, heq, State.raiseIf_cgr]
    exact h
  | rescan =>
    simp only [State.rollupEvent, State.rollupRescan]
    split
    · exact h
    · exact State.rescan_fits h (pairsOver_ordered _ _).nodup
  | verify => simp only [State.rollupEvent, State.attribute]; split <;> exact h
  | write l => simp only [State.rollupEvent, State.verificationWrite]; split <;> exact h
  | trigger => simpa [State.rollupEvent] using h

end Sys2Proof.Machine
end

section
/-! PROOFS. The shares that the computing phase of a HOLD finds (8.2, 8.3), and the Book's collections at every step. -/
namespace Sys2Proof.Machine

/-! ### The checks and shares of a HOLD's computing phase -/

/-- What a HOLD's six checks say of its arguments (R113). -/
structure HoldPasses (a : HoldArgs) (s : State) : Prop where
  commerce : s.mtu.commerce = true
  product : a.product.toNat < Config.numProducts
  enabled : (s.product a.product.toNat).enabled = true
  count : 1 ≤ a.count.toNat ∧ a.count.toNat ≤ 16
  zone : a.zone.toNat ≤ 15
  admits : (s.product a.product.toNat).admits a.quantity.toNat
  gate : s.mtu.clock + s.eng.settings.lead < a.first.toNat
  range : ∃ b, s.eng.bookInterval = some b ∧ a.first.toNat + a.count.toNat - 1 ≤ b + 95
  eligible : s.cmt.lowestEligible.isSome

theorem holdCheck_eq_none {a : HoldArgs} {s : State} (h : holdCheck a s = none) : HoldPasses a s := by
  unfold holdCheck at h
  dsimp only at h
  iterate 5
    split at h
    · cases h
  split at h
  · cases h
  iterate 2
    split at h
    · cases h
  rename_i hcommerce hproduct henabled hargs hgate _ b hb hrange heligible
  refine ⟨by simpa using hcommerce, by simp only [Config.numProducts]; omega, by simpa using henabled, by omega, by omega,
    ⟨by omega, by omega⟩, by omega, ⟨b, hb, by omega⟩, ?_⟩
  exact Option.isSome_iff_ne_none.mpr fun hnone => heligible (by simp [hnone])

/-- The headrooms that a HOLD or a query considers: those of the zone's groups (R114, R116). -/
def State.consider (s : State) (z : Nat) (p : Product) (first count : Nat) : List Headroom :=
  (s.zoneGroups z).map (s.groupHeadroom p first count)

/-- The groups that a HOLD's computing phase selects (R117). -/
def holdSelected (a : HoldArgs) (s : State) : List Headroom :=
  selectGroups (s.consider a.zone.toNat (s.product a.product.toNat) a.first.toNat a.count.toNat)

theorem holdScratch_of_refused {a : HoldArgs} {s : State} {c : Status} (h : holdCheck a s = some c) :
    holdScratch a s = s.refusedScratch c (s.gateStatus a.first.toNat) := by
  simp only [holdScratch, h]

theorem holdScratch_of_passed {a : HoldArgs} {s : State} (h : holdCheck a s = none) : holdScratch a s =
    { refusal := if totalHeadroom (holdSelected a s) < a.quantity.toNat then some .short else none
      considered := s.consider a.zone.toNat (s.product a.product.toNat) a.first.toNat a.count.toNat
      selected := holdSelected a s
      shares := if totalHeadroom (holdSelected a s) < a.quantity.toNat then []
        else allocate a.quantity.toNat (totalHeadroom (holdSelected a s)) ((holdSelected a s).map (fun h => (h.group, h.power)))
      clock := s.mtu.clock
      book := s.eng.bookInterval.getD 0
      gate := s.gateStatus a.first.toNat } := by
  simp only [holdScratch, h]
  rfl

/-- A computing phase that refuses nothing found shares for its quantity. -/
theorem holdScratch_accepts {a : HoldArgs} {s : State} (h : (holdScratch a s).refusal = none) :
    holdCheck a s = none ∧ a.quantity.toNat ≤ totalHeadroom (holdSelected a s)
      ∧ (holdScratch a s).shares = allocate a.quantity.toNat (totalHeadroom (holdSelected a s))
          ((holdSelected a s).map (fun h => (h.group, h.power))) := by
  cases hcheck : holdCheck a s with
  | some c => simp [holdScratch_of_refused hcheck, State.refusedScratch] at h
  | none =>
    rw [holdScratch_of_passed hcheck] at h ⊢
    simp only [ite_eq_right_iff, reduceCtorEq, imp_false, Nat.not_lt] at h
    exact ⟨rfl, h, if_neg (Nat.not_lt.mpr h)⟩

@[simp] theorem State.consider_groups (s : State) (z : Nat) (p : Product) (first count : Nat) :
    (s.consider z p first count).map (·.group) = s.zoneGroups z := by
  simp [State.consider, State.groupHeadroom, Function.comp_def]

theorem State.consider_nodup (s : State) (z : Nat) (p : Product) (first count : Nat) :
    ((s.consider z p first count).map (·.group)).Nodup := by
  rw [State.consider_groups]
  exact (s.zoneGroups_ascending z).imp fun hlt => hlt.ne

theorem selected_keys_nodup {l : List Headroom} (h : (l.map (·.group)).Nodup) :
    (((selectGroups l).map (fun h => (h.group, h.power))).map (·.1)).Nodup := by
  simpa [List.map_map, Function.comp_def] using selectGroups_nodup h

theorem holdScratch_ordered (a : HoldArgs) (s : State) : (holdScratch a s).shares.Pairwise (fun x y => x.group < y.group) := by
  cases hcheck : holdCheck a s with
  | some c => simp [holdScratch_of_refused hcheck, State.refusedScratch]
  | none =>
    rw [holdScratch_of_passed hcheck]
    dsimp only
    split
    · exact .nil
    · exact allocate_ordered (selected_keys_nodup (s.consider_nodup _ _ _ _)) _

theorem admissionScratch_ordered (r : Request) (s : State) :
    (admissionScratch r s).shares.Pairwise (fun x y => x.group < y.group) := by
  unfold admissionScratch
  split
  · exact holdScratch_ordered _ s
  · unfold queryScratch
    dsimp only
    split <;> exact .nil
  · exact .nil

/-- An engine's start fills the scratch of an ADMISSION job on the state at the start, or leaves it. -/
theorem State.choose_scratch (s : State) : s.choose.eng.scratch = s.eng.scratch
    ∨ ∃ x u, s.choose.eng.job = some (.admission ⟨x, false⟩) ∧ s.choose.eng.scratch = some (admissionScratch x.request u)
        ∧ u.supply = s.supply ∧ u.mtu = s.mtu ∧ u.frg = s.frg ∧ u.tiu = s.tiu ∧ u.cgr = s.cgr ∧ u.cmt = s.cmt
        ∧ u.eng = { s.eng with admission := u.eng.admission } := by
  obtain heq | ⟨-, hstart⟩ := s.choose_started
  · exact .inl (by rw [heq])
  · generalize s.choose = t at hstart
    cases hstart with
    | admission x l h => exact .inr ⟨x, { s with eng := { s.eng with admission := l } }, rfl, rfl, rfl, rfl, rfl, rfl, rfl, rfl, rfl⟩
    | _ => exact .inl rfl

/-! ### The Book's collections at every event -/

theorem State.BookInv.table {s : State} (h : s.BookInv) : s.cmt.Fits :=
  ⟨h.record_order, h.record_id, h.share_order, h.queue_room, h.settling_full⟩

theorem State.BookInv.list {s : State} (h : s.BookInv) : s.cgr.Fits := ⟨h.deficit_order, h.deficit_room⟩

/-- The shares that the scratch holds are in ascending group. -/
def Engine.ScratchOrdered (e : Engine) : Prop := ∀ x, e.scratch = some x → x.shares.Pairwise (fun a b => a.group < b.group)

theorem Engine.ScratchOrdered.of_none_or {e e' : Engine} (h : e.ScratchOrdered) (hs : e'.scratch = none ∨ e'.scratch = e.scratch) :
    e'.ScratchOrdered := fun x hx => by
  rcases hs with hs | hs
  · simp [hs] at hx
  · exact h x (hs ▸ hx)

theorem State.BookInv.of_parts {s : State} (hc : s.cmt.Fits) (hg : s.cgr.Fits) (hs : s.eng.ScratchOrdered) : s.BookInv :=
  ⟨hg.1, hg.2, hc.record_order, hc.record_id, hc.share_order, hs, hc.queue_room, hc.settling_full⟩

theorem State.rolloverEvent_scratch (s : State) (st : RolloverStage) :
    (s.rolloverEvent st).1.eng.scratch = none ∨ (s.rolloverEvent st).1.eng.scratch = s.eng.scratch := by
  unfold State.rolloverEvent
  split
  case h_2 => split <;> exact .inr rfl
  case h_11 => exact (State.raiseDispatch_arrived (.refl _)).job.elim (fun h => .inr h.2) (fun h => .inl h.2.1)
  all_goals exact .inr (by simp [State.initRing, State.stageRetirement])

@[simp] theorem State.continueWith_scratch (s : State) (j : Job) : (s.continueWith (some j)).eng.scratch = s.eng.scratch := rfl

/-- The record that a commit places: its id is free, its shares those of the scratch. -/
theorem Committed.fits {s t : State} {r : Running} (h : s.BookInv) (c : Committed r s t) : t.cmt.Fits ∧ t.cgr.Fits := by
  cases c with
  | nothing => exact ⟨h.table, h.list⟩
  | held a x id _ hx _ _ hid =>
    obtain ⟨hlt, hnew, -⟩ := Commitments.lowestEligible_eq hid
    refine ⟨?_, ?_⟩
    · rw [(State.addLoads_frame _ _).2.2.2.2.2.2.1]
      exact h.table.place hlt hnew (h.scratch_order x hx) nofun
    · have hlist := h.list
      rw [Grid.Fits, State.addLoads, (State.changeLoads_list _ _ _ _ _ _).1]
      exact hlist

theorem Event.bookInv {s t : State} (h : s.BookInv) (e : Event s t) : t.BookInv := by
  rcases e.book_cases with calm | ⟨r, -, w⟩ | ⟨r, -, c⟩ | ⟨st, st', -, -, rfl⟩ | ⟨st, st', -, hst, rfl⟩ | rfl
  · exact .of_parts (calm.cmt ▸ h.table) (calm.cgr ▸ h.list) (Engine.ScratchOrdered.of_none_or h.scratch_order calm.scratch)
  · obtain ⟨-, -, -, -, -, -, -, heng⟩ := w.frame
    exact .of_parts (w.commitments h.table) (w.deficits h.table h.list)
      (Engine.ScratchOrdered.of_none_or h.scratch_order (.inr (by rw [heng])))
  · obtain ⟨hc, hg⟩ := c.fits h
    obtain ⟨-, -, -, -, -, heng, -⟩ := c.frame
    exact .of_parts hc hg (heng ▸ h.scratch_order)
  · refine .of_parts ?_ ?_ (Engine.ScratchOrdered.of_none_or h.scratch_order ?_)
    · simpa using State.rolloverEvent_fits h.table st
    · simpa using State.rolloverEvent_deficits h.table h.list st
    · simpa using s.rolloverEvent_scratch st
  · refine .of_parts ?_ ?_ (Engine.ScratchOrdered.of_none_or h.scratch_order (.inr ?_))
    · simpa using State.rollupEvent_fits h.table st
    · simpa using State.rollupEvent_deficits h.list st
    · simp [(State.rollupEvent_frame hst).1]
  · refine .of_parts (by simpa using h.table) (by simpa using h.list) fun x hx => ?_
    obtain hs | ⟨y, u, -, hs, -⟩ := s.choose_scratch
    · exact h.scratch_order x (hs ▸ hx)
    · rw [← Option.some.inj (hs.symm.trans hx)]
      exact admissionScratch_ordered _ _

theorem State.BookInv.reset : State.reset.BookInv :=
  ⟨.nil, Nat.zero_le _, .nil, nofun, nofun, nofun, Nat.zero_le _, fun ⟨_, hr, _⟩ => nomatch hr⟩

theorem State.release_bookInv {s : State} (h : s.BookInv) : s.release.BookInv := by
  unfold State.release
  split
  · exact State.BookInv.of_parts State.BookInv.reset.table State.BookInv.reset.list nofun
  · exact h
  · exact h

theorem State.BookInv.queue {s : State} (h : s.BookInv) (l : List Instr) : State.BookInv { s with pending := l } :=
  .of_parts h.table h.list h.scratch_order

theorem step_bookInv {s t : State} (h : s.BookInv) (hstep : step s = .next t) : t.BookInv := by
  obtain ⟨-, rfl⟩ | hrun := step_events hstep
  · exact State.release_bookInv (h.queue _)
  · exact hrun.keep (fun _ _ hu e => e.bookInv hu) (h.queue _)

end Sys2Proof.Machine
end

section
/-! PROOFS. What the commitment records say (7.1, 7.2, 8.6) at every step: quantities and shares, delivery snapshots, figures,
issue numbers and the settlement queue. -/
namespace Sys2Proof.Machine

/-! ### The table apart: ranges, figures, issue numbers, settlement records -/

/-- The part of the records' invariant that the Commitment Table alone says. -/
structure Commitments.Sound (c : Commitments) : Prop where
  range : ∀ r ∈ c.records, 1 ≤ r.count ∧ r.count ≤ 16 ∧ r.product < Config.numProducts
  figures : ∀ r ∈ c.records, r.figures.isSome ↔ r.state = .settling
  issue : ∀ r ∈ c.records, r.issue = c.issue r.id
  unqueued : ∀ r ∈ c.records, ∀ q ∈ c.queue, q.id = r.id → q.issue ≠ r.issue
  queue_once : c.queue.Pairwise (fun a b => a.id = b.id → a.issue ≠ b.issue)

namespace Commitments.Sound

variable {c d : Commitments} (h : c.Sound)
include h

theorem of_eq (hrecords : d.records = c.records) (hissues : d.issues = c.issues) (hqueue : d.queue = c.queue) : d.Sound := by
  refine ⟨?_, ?_, ?_, ?_, ?_⟩
  · rw [hrecords]; exact h.range
  · rw [hrecords]; exact h.figures
  · intro r hr
    rw [h.issue r (hrecords ▸ hr), Commitments.issue, Commitments.issue, hissues]
  · rw [hrecords, hqueue]; exact h.unqueued
  · rw [hqueue]; exact h.queue_once

theorem remove (i : Nat) : (c.remove i).Sound where
  range r hr := h.range r (mem_remove.mp hr).1
  figures r hr := h.figures r (mem_remove.mp hr).1
  issue r hr := by
    obtain ⟨hr, hne⟩ := mem_remove.mp hr
    rw [h.issue r hr]
    exact (Table.get_set_ne hne).symm
  unqueued r hr := h.unqueued r (mem_remove.mp hr).1
  queue_once := h.queue_once

/-- Records replaced one by one, each under its own id, issue and range. -/
theorem mapped (f : Commitment → Commitment)
    (hkeep : ∀ r ∈ c.records, (f r).id = r.id ∧ (f r).issue = r.issue ∧ (f r).count = r.count ∧ (f r).product = r.product)
    (hfigures : ∀ r ∈ c.records, (f r).figures.isSome ↔ (f r).state = .settling)
    (hrecords : d.records = c.records.map f) (hissues : d.issues = c.issues) (hqueue : d.queue = c.queue) : d.Sound where
  range r hr := by
    obtain ⟨x, hx, rfl⟩ := List.mem_map.mp (hrecords ▸ hr)
    obtain ⟨-, -, hcount, hproduct⟩ := hkeep x hx
    rw [hcount, hproduct]
    exact h.range x hx
  figures r hr := by
    obtain ⟨x, hx, rfl⟩ := List.mem_map.mp (hrecords ▸ hr)
    exact hfigures x hx
  issue r hr := by
    obtain ⟨x, hx, rfl⟩ := List.mem_map.mp (hrecords ▸ hr)
    obtain ⟨hid, hissue, -⟩ := hkeep x hx
    rw [hissue, hid, h.issue x hx, Commitments.issue, Commitments.issue, hissues]
  unqueued r hr q hq := by
    obtain ⟨x, hx, rfl⟩ := List.mem_map.mp (hrecords ▸ hr)
    obtain ⟨hid, hissue, -⟩ := hkeep x hx
    rw [hid, hissue]
    exact h.unqueued x hx q (hqueue ▸ hq)
  queue_once := hqueue ▸ h.queue_once

theorem replace {r x : Commitment} (hid : r.id = x.id) (hissue : r.issue = x.issue)
    (hcount : r.count = x.count) (hproduct : r.product = x.product) (honly : ∀ y ∈ c.records, y.id = x.id → y = x)
    (hfigures : r.figures.isSome ↔ r.state = .settling) : (c.replace r).Sound := by
  refine h.mapped (fun y => if y.id = r.id then r else y) (fun y hy => ?_) (fun y hy => ?_) rfl rfl rfl
  · split
    · rename_i heq
      rw [honly y hy (heq.trans hid)]
      exact ⟨hid, hissue, hcount, hproduct⟩
    · exact ⟨rfl, rfl, rfl, rfl⟩
  · split
    · exact hfigures
    · exact h.figures y hy

theorem place {r : Commitment} (hrange : 1 ≤ r.count ∧ r.count ≤ 16 ∧ r.product < Config.numProducts)
    (hfigures : r.figures.isSome ↔ r.state = .settling) (hissue : r.issue = c.issue r.id)
    (hnew : ∀ q ∈ c.queue, q.id = r.id → q.issue ≠ r.issue) : (c.place r).Sound where
  range x hx := (mem_place.mp hx).elim (fun heq => heq ▸ hrange) (h.range x)
  figures x hx := (mem_place.mp hx).elim (fun heq => heq ▸ hfigures) (h.figures x)
  issue x hx := (mem_place.mp hx).elim (fun heq => heq ▸ hissue) (h.issue x)
  unqueued x hx := (mem_place.mp hx).elim (fun heq => heq ▸ hnew) (h.unqueued x)
  queue_once := h.queue_once

/-- A record settles: its pair of id and issue goes with it to the queue's tail. -/
theorem settle {r : Commitment} (hr : r ∈ c.records) (f : Figures) : (c.settle r f).Sound where
  range := (h.remove r.id).range
  figures := (h.remove r.id).figures
  issue := (h.remove r.id).issue
  unqueued x hx q hq hid := by
    rcases List.mem_append.mp hq with hq | hq
    · exact (h.remove r.id).unqueued x hx q hq hid
    · rw [List.mem_singleton.mp hq] at hid
      exact absurd hid.symm (mem_remove.mp hx).2
  queue_once := by
    refine List.pairwise_append.mpr ⟨h.queue_once, List.pairwise_singleton _ _, fun q hq y hy => ?_⟩
    rw [List.mem_singleton.mp hy]
    exact h.unqueued r hr q hq

/-- Records of different ids settle one after the other. -/
theorem foldl_settle (figures : Commitment → Figures) (l : List Commitment) (hids : (l.map (·.id)).Nodup)
    (hl : ∀ r ∈ l, r ∈ c.records) : (l.foldl (fun c r => c.settle r (figures r)) c).Sound := by
  induction l generalizing c with
  | nil => exact h
  | cons r t ih =>
    obtain ⟨hout, ht⟩ := List.nodup_cons.mp hids
    refine ih (h.settle (hl r (.head _)) _) ht fun x hx => mem_remove.mpr ⟨hl x (.tail _ hx), fun heq => hout ?_⟩
    exact List.mem_map.mpr ⟨x, hx, heq⟩

end Commitments.Sound

/-! ### The records against the rest of the state -/

/-- What a record says against the products, the groups' zones, the horizon and the stage of a boundary. -/
structure State.Supports (s : State) (r : Commitment) : Prop where
  opened : s.eng.bookInterval ≠ none
  horizon : ∀ b, s.eng.bookInterval = some b → r.state ≠ .settling → r.last ≤ b + 95
  shares : r.state ≠ .settling → (s.product r.product).admits r.quantity ∧ s.SharesFit r.zone r.quantity r.shares
  snapshot : ∀ b, s.eng.bookInterval = some b → s.SnapshotFits b r

/-- The scratch of a HOLD whose computing phase found its shares has those of a record it may commit. -/
def State.ScratchFits (s : State) : Prop :=
  ∀ r a x, s.eng.job = some (.admission r) → r.entry.request = .hold a → s.eng.scratch = some x → x.refusal = none →
    (∃ b, s.eng.bookInterval = some b ∧ a.first.toNat + a.count.toNat - 1 ≤ b + 95)
    ∧ 1 ≤ a.count.toNat ∧ a.count.toNat ≤ 16 ∧ a.product.toNat < Config.numProducts
    ∧ (s.product a.product.toNat).admits a.quantity.toNat ∧ s.SharesFit a.zone.toNat a.quantity.toNat x.shares

/-- An enabled product is defined (R23). -/
def State.EnabledDefined (s : State) : Prop :=
  ∀ p, (s.product p).enabled = true → (s.product p).direction ≠ .none ∧ 1 ≤ (s.product p).minimum ∧ 1 ≤ (s.product p).step

theorem State.recordInv_iff (s : State) : s.RecordInv ↔
    s.EnabledDefined ∧ s.cmt.Sound ∧ (∀ r ∈ s.cmt.records, s.Supports r) ∧ s.ScratchFits := by
  constructor
  · intro h
    refine ⟨h.enabled, ⟨h.range, h.figures, h.issue, h.unqueued, h.queue_once⟩, fun r hr => ⟨fun hnone => ?_, fun b hb =>
      h.horizon b hb r hr, h.shares r hr, fun b hb => h.snapshot b hb r hr⟩, h.scratch⟩
    simp [h.unopened hnone] at hr
  · rintro ⟨henabled, hsound, hsupports, hscratch⟩
    exact ⟨henabled, fun hnone => List.eq_nil_iff_forall_not_mem.mpr fun r hr => (hsupports r hr).opened hnone, hsound.range,
      fun b hb r hr => (hsupports r hr).horizon b hb, fun r hr => (hsupports r hr).shares,
      fun b hb r hr => (hsupports r hr).snapshot b hb, hsound.figures, hsound.issue, hsound.unqueued, hsound.queue_once, hscratch⟩

theorem State.SharesFit.congr {s t : State} {z q : Nat} {l : List Share} (h : s.SharesFit z q l)
    (hzone : ∀ x ∈ l, (t.frg.group x.group).zone = (s.frg.group x.group).zone) : t.SharesFit z q l where
  nonempty := h.nonempty
  room := h.room
  each x hx := by
    obtain ⟨hpower, hgroup, hz⟩ := h.each x hx
    exact ⟨hpower, hgroup, (hzone x hx).trans hz⟩
  sum := h.sum

/-- The part runs on, and no snapshot falls due: a boundary's stage before the snapshots stands. -/
def State.StageKept (s t : State) : Prop :=
  t.supply = .running → s.supply = .running ∧ (t.eng.beforeSnapshots = false → s.eng.beforeSnapshots = false)

theorem State.StageKept.of_eng {s t : State} (hsupply : t.supply = s.supply) (heng : t.eng.job = s.eng.job) : s.StageKept t :=
  fun hrun => ⟨hsupply ▸ hrun, fun h => by rw [Engine.beforeSnapshots] at h ⊢; rwa [heng] at h⟩

theorem State.Supports.stand {s t : State} {r : Commitment} (h : s.Supports r)
    (hproduct : r.state ≠ .settling → t.product r.product = s.product r.product)
    (hzone : r.state ≠ .settling → ∀ x ∈ r.shares, (t.frg.group x.group).zone = (s.frg.group x.group).zone)
    (hbook : t.eng.bookInterval = s.eng.bookInterval) (hstage : s.StageKept t) : t.Supports r where
  opened := hbook ▸ h.opened
  horizon b hb := h.horizon b (hbook ▸ hb)
  shares hst := by
    obtain ⟨hadmits, hfit⟩ := h.shares hst
    exact ⟨hproduct hst ▸ hadmits, hfit.congr (hzone hst)⟩
  snapshot b hb := by
    obtain ⟨hheld, hbefore, hafter⟩ := h.snapshot b (hbook ▸ hb)
    refine ⟨hheld, hbefore, fun hrun hst hwhen => ?_⟩
    obtain ⟨hrun', hstage'⟩ := hstage hrun
    exact hafter hrun' hst (hwhen.imp_right (And.imp_right hstage'))

/-- A SETTLING record asks nothing of the rest of the state. -/
theorem State.Supports.of_settling {s : State} {r : Commitment} (hbook : s.eng.bookInterval ≠ none) (h : r.state = .settling) :
    s.Supports r :=
  ⟨hbook, fun _ _ hne => absurd h hne, fun hne => absurd h hne, fun _ _ => by simp [State.SnapshotFits, h]⟩

theorem State.ScratchFits.of_no_admission {s : State} (h : ∀ r, s.eng.job ≠ some (.admission r)) : s.ScratchFits :=
  fun r _ _ hjob => absurd hjob (h r)

/-! ### Calm events -/

/-- The stages of a boundary between the retirement of an interval and the snapshots of the next (R103). -/
def RolloverStage.early : RolloverStage → Bool
  | .expiry _ | .support _ | .intervalEnd _ _ | .snapshots _ => true
  | _ => false

theorem Engine.beforeSnapshots_iff {e : Engine} :
    e.beforeSnapshots = true ↔ ∃ st, e.job = some (.rollover st) ∧ st.early = true := by
  unfold Engine.beforeSnapshots
  constructor
  · intro h
    split at h
    case h_5 => cases h
    all_goals exact ⟨_, ‹_›, rfl⟩
  · rintro ⟨st, hjob, hearly⟩
    rw [hjob]
    cases st with
    | expiry _ | support _ | intervalEnd _ _ | snapshots _ => rfl
    | _ => cases hearly

theorem State.Calm.stage_kept {s t : State} (c : s.Calm t) : s.StageKept t := by
  intro hrun
  obtain ⟨hrun', hjob⟩ := c.stage hrun
  refine ⟨hrun', fun hno => Bool.eq_false_iff.mpr fun hyes => ?_⟩
  obtain ⟨st, hst, hearly⟩ := Engine.beforeSnapshots_iff.mp hyes
  have hkept := hjob st hst (by rintro rfl; cases hearly)
  exact absurd (Engine.beforeSnapshots_iff.mpr ⟨st, hkept, hearly⟩) (by simp [hno])

theorem State.RecordInv.calm {s t : State} (h : s.RecordInv) (c : s.Calm t) : t.RecordInv := by
  rw [State.recordInv_iff] at h ⊢
  obtain ⟨henabled, hsound, hsupports, hscratch⟩ := h
  have hproduct : ∀ p, t.product p = s.product p := fun p => by rw [State.product, State.product, c.cmt]
  refine ⟨fun p => ?_, c.cmt ▸ hsound, fun r hr => ?_, fun r a x hjob hreq hx hok => ?_⟩
  · rw [hproduct]
    exact henabled p
  · exact (hsupports r (c.cmt ▸ hr)).stand (fun _ => hproduct _) (fun _ x _ => by rw [c.groups]) c.book c.stage_kept
  · obtain ⟨r', hjob', hentry, hkept⟩ := c.admission r hjob
    obtain ⟨hrange, h1, h2, h3, hadmits, hfit⟩ := hscratch r' a x hjob' (hentry ▸ hreq) (hkept ▸ hx) hok
    rw [c.book, hproduct]
    exact ⟨hrange, h1, h2, h3, hadmits, hfit.congr fun y _ => by rw [c.groups]⟩

end Sys2Proof.Machine
end

section
/-! PROOFS. What the commitment records say (7.1, 7.2, 8.6) at every event, and the step lemma on the Book. -/
namespace Sys2Proof.Machine

/-! ### The shares of an allocation -/

theorem length_allocate_le (q t : Nat) (weights : List (Nat × Nat)) : (allocate q t weights).length ≤ weights.length := by
  rw [allocate_eq, List.length_map]
  refine (List.length_filter_le _ _).trans ?_
  rw [largestRemainder_eq, List.length_map, byGroup, length_sortBy]

theorem State.sharesFit_allocate {s : State} {z q : Nat} {weights : List (Nat × Nat)} (hkeys : (weights.map (·.1)).Nodup)
    (hroom : weights.length ≤ 16) (hq : 1 ≤ q) (hle : q ≤ (weights.map (·.2)).sum)
    (hgroups : ∀ w ∈ weights, w.1 < Config.numGroups ∧ (s.frg.group w.1).zone = z) :
    s.SharesFit z q (allocate q (weights.map (·.2)).sum weights) := by
  have hsum : ((allocate q (weights.map (·.2)).sum weights).map (·.power)).sum = q := allocate_sum hkeys rfl (by omega)
  refine ⟨fun hnil => ?_, (length_allocate_le _ _ _).trans hroom, fun x hx => ?_, hsum⟩
  · simp [hnil] at hsum
    omega
  · obtain ⟨hpower, w, hw, hgroup, -⟩ := mem_allocate.mp hx
    exact ⟨hpower, hgroup ▸ hgroups w hw⟩

/-- The shares that a HOLD's computing phase finds fit its zone and quantity. -/
theorem holdScratch_fits {a : HoldArgs} {s : State} (henabled : s.EnabledDefined) (h : (holdScratch a s).refusal = none) :
    s.SharesFit a.zone.toNat a.quantity.toNat (holdScratch a s).shares := by
  obtain ⟨hcheck, hle, hshares⟩ := holdScratch_accepts h
  have hpass := holdCheck_eq_none hcheck
  rw [hshares]
  have htotal : totalHeadroom (holdSelected a s) = (((holdSelected a s).map (fun h => (h.group, h.power))).map (·.2)).sum := by
    simp [totalHeadroom, Function.comp_def]
  rw [htotal] at hle ⊢
  refine State.sharesFit_allocate (selected_keys_nodup (s.consider_nodup _ _ _ _)) ?_ ?_ hle fun w hw => ?_
  · rw [List.length_map, holdSelected, length_selectGroups]
    exact Nat.min_le_left _ _
  · exact (henabled _ hpass.enabled).2.1.trans hpass.admits.1
  · obtain ⟨x, hx, rfl⟩ := List.mem_map.mp hw
    obtain ⟨hx, -⟩ := mem_selectGroups hx
    have hzone : x.group ∈ s.zoneGroups a.zone.toNat := by
      rw [← s.consider_groups a.zone.toNat (s.product a.product.toNat) a.first.toNat a.count.toNat]
      exact List.mem_map_of_mem hx
    exact (s.mem_zoneGroups_iff _ _).mp hzone

/-! ### Work of requests -/

theorem State.gateStatus_eq_open {s : State} {i : Nat} (h : s.gateStatus i = .open) :
    ∃ b, s.eng.bookInterval = some b ∧ s.mtu.clock + s.eng.settings.lead < i ∧ i ≤ b + 95 := by
  unfold State.gateStatus at h
  split at h
  · cases h
  · rename_i b hb
    refine ⟨b, hb, ?_⟩
    split at h
    · cases h
    split at h
    · cases h
    split at h
    · cases h
    split at h
    · omega
    · cases h

/-- Records that stand while the products, the zones of their groups and the Book do. -/
theorem State.RecordInv.same {s t : State} (h : s.RecordInv) (hrecords : t.cmt.records = s.cmt.records)
    (hissues : t.cmt.issues = s.cmt.issues) (hqueue : t.cmt.queue = s.cmt.queue) (hproducts : t.cmt.products = s.cmt.products)
    (hzone : ∀ r ∈ s.cmt.records, r.state ≠ .settling → ∀ x ∈ r.shares, (t.frg.group x.group).zone = (s.frg.group x.group).zone)
    (hbook : t.eng.bookInterval = s.eng.bookInterval) (hstage : s.StageKept t) (hscratch : t.ScratchFits) : t.RecordInv := by
  rw [State.recordInv_iff] at h ⊢
  obtain ⟨henabled, hsound, hsupports, -⟩ := h
  have hproduct : ∀ p, t.product p = s.product p := fun p => by rw [State.product, State.product, hproducts]
  refine ⟨fun p => ?_, hsound.of_eq hrecords hissues hqueue, fun r hr => ?_, hscratch⟩
  · rw [hproduct]
    exact henabled p
  · rw [hrecords] at hr
    exact (hsupports r hr).stand (fun _ => hproduct _) (hzone r hr) hbook hstage

theorem State.inUse_of_share {s : State} {r : Commitment} {x : Share} (hr : r ∈ s.cmt.records) (hst : r.state ≠ .settling)
    (hx : x ∈ r.shares) : s.inUse x.group = true := by
  refine List.any_eq_true.mpr ⟨r, hr, ?_⟩
  have hshare : r.hasShare x.group = true := List.any_eq_true.mpr ⟨x, hx, by simp⟩
  cases hstate : r.state <;> simp_all

theorem State.referenced_of_record {s : State} {r : Commitment} (hr : r ∈ s.cmt.records) (hst : r.state ≠ .settling) :
    s.referenced r.product = true := by
  have hany : s.cmt.records.any (fun x => x.product == r.product && (x.state == .held || x.state == .awarded)) = true := by
    refine List.any_eq_true.mpr ⟨r, hr, ?_⟩
    cases hstate : r.state <;> simp_all
  simp [State.referenced, hany]

/-- A record removed with its loads leaves the others as they were. -/
theorem State.RecordInv.dropped {s : State} (h : s.RecordInv) (r : Commitment) (hno : ∀ x, s.eng.job ≠ some (.admission x)) :
    (s.dropCommitment r).RecordInv := by
  rw [State.recordInv_iff] at h ⊢
  obtain ⟨henabled, hsound, hsupports, -⟩ := h
  have hproduct : ∀ p, (s.dropCommitment r).product p = s.product p := fun p => by simp [State.product]
  refine ⟨fun p => ?_, ?_, fun x hx => ?_, State.ScratchFits.of_no_admission (by simpa using hno)⟩
  · rw [hproduct]
    exact henabled p
  · simpa using hsound.remove r.id
  · have hmem : x ∈ s.cmt.records := by
      simp only [State.dropCommitment_frame, Commitments.mem_remove] at hx
      exact hx.1
    exact (hsupports x hmem).stand (fun _ => hproduct _) (by simp) (by simp) (.of_eng (by simp) (by simp))

/-- The shares of an award fit its quantity. -/
theorem State.SharesFit.reduced {s : State} {r : Commitment} (h : s.SharesFit r.zone r.quantity r.shares)
    (hordered : r.shares.Pairwise (fun a b => a.group < b.group)) {q : Nat} (hq : q ≠ 0) (hle : q ≤ r.quantity) :
    s.SharesFit r.zone q (r.reduced q).shares := by
  have htotal : ((r.shares.map (fun x => (x.group, x.power))).map (·.2)).sum = r.quantity := by
    rw [← h.sum, List.map_map]
    rfl
  have hkeys : ((r.shares.map (fun x => (x.group, x.power))).map (·.1)).Nodup := by
    rw [List.map_map]
    exact List.pairwise_map.mpr (hordered.imp fun hlt => hlt.ne)
  have hfit := State.sharesFit_allocate (s := s) (z := r.zone) (q := q) hkeys (by simpa using h.room) (by omega)
    (by rw [htotal]; exact hle) fun w hw => by
      obtain ⟨x, hx, rfl⟩ := List.mem_map.mp hw
      exact (h.each x hx).2
  rwa [htotal] at hfit

theorem Worked.records {s t : State} (htime : s.TimeInv) (hbook : s.BookInv) (h : s.RecordInv)
    (hno : ∀ x, s.eng.job ≠ some (.admission x)) (w : Worked s t) : t.RecordInv := by
  have hstage : s.StageKept t := .of_eng w.frame.1 w.job
  have hscratch : t.ScratchFits := .of_no_admission (by rwa [w.job])
  cases w with
  | dropped r _ _ => exact h.dropped r hno
  | group g x hzone =>
    refine h.same rfl rfl rfl rfl (fun r hr hst y hy => ?_) rfl hstage hscratch
    simp only [State.raiseRollup, Registry.group, Table.get_set]
    split
    · rename_i hg
      rcases hzone with hsame | hfree
      · rw [hsame, Registry.group, hg]
      · rw [← hg, State.inUse_of_share hr hst hy] at hfree
        cases hfree
    · rfl
  | product a hp href hrange =>
    rw [State.recordInv_iff] at h ⊢
    obtain ⟨henabled, hsound, hsupports, -⟩ := h
    have hget : ∀ p, State.product { s with cmt := { s.cmt with
        products := Table.set {} s.cmt.products a.product.toNat (productRecord a) } } p
        = if p = a.product.toNat then productRecord a else s.product p := fun p => Table.get_set
    refine ⟨fun p => ?_, hsound.of_eq rfl rfl rfl, fun r hr => ?_, hscratch⟩
    · rw [hget]
      split
      · intro _
        simp only [productInRange, Bool.and_eq_true, decide_eq_true_eq, ne_eq] at hrange
        obtain ⟨⟨⟨⟨⟨⟨⟨hdir, -⟩, -⟩, -⟩, hmin⟩, hstep⟩, -⟩, -⟩ := hrange
        exact ⟨hdir, hmin, hstep.1⟩
      · exact henabled p
    · refine (hsupports r hr).stand (fun hst => ?_) (fun _ _ _ => rfl) rfl hstage
      rw [hget, if_neg]
      rintro heq
      have hmem : r ∈ s.cmt.records := hr
      rw [← heq, State.referenced_of_record hmem hst] at href
      cases href
  | settlements =>
    rw [State.recordInv_iff] at h ⊢
    obtain ⟨henabled, hsound, hsupports, -⟩ := h
    have hproduct : ∀ p, (readSettlementWork s).1.product p = s.product p := fun p => by
      rw [State.product, State.product, readSettlementWork_products]
    refine ⟨fun p => ?_, ?_, fun r hr => ?_, hscratch⟩
    · rw [hproduct]
      exact henabled p
    · refine Commitments.Sound.foldl_settle (c := { s.cmt with queue := s.cmt.queue.drop 4 }) ?_ _ _ ?_ fun r hr => ?_
      · exact ⟨hsound.range, hsound.figures, hsound.issue, fun r hr q hq => hsound.unqueued r hr q (List.mem_of_mem_drop hq),
          hsound.queue_once.sublist (List.drop_sublist _ _)⟩
      · refine (List.Nodup.sublist ((List.take_sublist _ _).map _)) ?_
        refine ((sortBy_perm _ _).map _).nodup_iff.mpr ?_
        exact List.pairwise_map.mpr ((hbook.record_order.filter _).imp fun hlt => hlt.ne)
      · exact (Commitments.mem_settling.mp (List.mem_of_mem_take hr)).1
    · have hmem : r ∈ s.cmt.records := 
        (Commitments.foldl_settle_sublist (fun r => r.figures.getD ⟨0, 0#32⟩) (s.cmt.settling.take (s.cmt.queue.take 4).length)
          { s.cmt with queue := s.cmt.queue.drop 4 }).subset hr
      exact (hsupports r hmem).stand (fun _ => hproduct _) (fun _ _ _ => rfl) rfl hstage
  | awarded r q hrec hheld hgate hq hle hadmits =>
    obtain ⟨hr, -⟩ := Commitments.record_mem hrec
    obtain ⟨b, hb, hlead, -⟩ := s.gateStatus_eq_open hgate
    have hbelow : b < r.first := by
      have := htime.book_le b hb
      omega
    rw [State.recordInv_iff] at h ⊢
    obtain ⟨henabled, hsound, hsupports, -⟩ := h
    obtain ⟨hopened, hhorizon, hshares, hsnap⟩ := hsupports r hr
    have hnot : r.state ≠ .settling := by simp [hheld]
    have hnone : r.snapshot = none := (hsnap b hb).1 hheld
    generalize hu : ({ s.changeLoads r.first r.count r.shares (awardDrop (s.product r.product) (r.reduced q)) Quad.sub
      with cmt := s.cmt.replace (r.reduced q) } : State) = u at hstage hscratch ⊢
    have hcmt : u.cmt = s.cmt.replace (r.reduced q) := hu ▸ rfl
    have heng : u.eng = s.eng := hu ▸ rfl
    have hfrg : u.frg = s.frg := hu ▸ rfl
    have hproduct : ∀ p, (u.rescan (s.sharePairs r.first r.count r.shares)).product p = s.product p := fun p => by
      simp [State.product, hcmt]
    refine ⟨fun p => ?_, ?_, fun x hx => ?_, hscratch⟩
    · rw [hproduct]
      exact henabled p
    · rw [(State.rescan_frame _ _).2.2.2.2.2.2.1, hcmt]
      exact hsound.replace (x := r) rfl rfl rfl rfl (fun y hy hid => hbook.table.id_inj hy hr hid)
        (by have := hsound.figures r hr; simpa [Commitment.reduced, hheld] using this)
    · have hx' : x = r.reduced q ∨ x ∈ s.cmt.records ∧ x.id ≠ (r.reduced q).id := by
        have hx : x ∈ (s.cmt.replace (r.reduced q)).records := by simpa [hcmt] using hx
        exact (Commitments.mem_replace (r := r.reduced q) ⟨r, hr, rfl⟩).mp hx
      have hsame : ∀ y, s.Supports y → (u.rescan (s.sharePairs r.first r.count r.shares)).Supports y := fun y hy =>
        hy.stand (fun _ => hproduct _) (by simp [hfrg]) (by simp [heng]) hstage
      rcases hx' with rfl | ⟨hx, -⟩
      · refine hsame _ ⟨hopened, fun b hb _ => hhorizon b hb hnot, fun _ => ⟨hadmits, ?_⟩, fun b' hb' => ?_⟩
        · exact (hshares hnot).2.reduced (hbook.share_order r hr) hq hle
        · obtain rfl := Option.some.inj (hb.symm.trans hb')
          refine ⟨nofun, fun _ _ => hnone, fun _ _ hwhen => ?_⟩
          rcases hwhen with hlt | ⟨heq, -⟩
          · exact absurd (hlt.trans hbelow) (lt_irrefl _)
          · exact absurd (heq ▸ hbelow) (lt_irrefl _)
      · exact hsame x (hsupports x hx)
  | forecasts g i l => exact h.same (by simp) (by simp) (by simp) (by simp) (by simp) (by simp) hstage hscratch
  | rescanned a _ => exact h.same (by simp) (by simp) (by simp) (by simp) (by simp) (by simp) hstage hscratch
  | _ => exact h.same rfl rfl rfl rfl (fun _ _ _ _ _ => rfl) rfl hstage hscratch

/-! ### The commit of an ADMISSION job -/

theorem Committed.records {s t : State} {r : Running} (hjob : s.eng.job = some (.admission r)) (h : s.RecordInv)
    (c : Committed r s t) : t.RecordInv := by
  cases c with
  | nothing => exact h
  | held a x id hreq hx hok hgate hid =>
    rw [State.recordInv_iff] at h ⊢
    obtain ⟨henabled, hsound, hsupports, hscratch⟩ := h
    obtain ⟨-, -, hnew⟩ := Commitments.lowestEligible_eq hid
    obtain ⟨⟨b, hb, hlast⟩, hcount, hcount', hproduct, hadmits, hfit⟩ := hscratch r a x hjob hreq hx hok
    generalize hrec : heldRecord a id (s.cmt.issue id) x.shares = n
    have hn : n.id = id ∧ n.issue = s.cmt.issue id ∧ n.state = .held ∧ n.product = a.product.toNat ∧ n.zone = a.zone.toNat
        ∧ n.first = a.first.toNat ∧ n.count = a.count.toNat ∧ n.quantity = a.quantity.toNat ∧ n.shares = x.shares
        ∧ n.snapshot = none ∧ n.figures = none := by
      subst hrec
      exact ⟨rfl, rfl, rfl, rfl, rfl, rfl, rfl, rfl, rfl, rfl, rfl⟩
    obtain ⟨hnid, hnissue, hnstate, hnproduct, hnzone, hnfirst, hncount, hnquantity, hnshares, hnsnapshot, hnfigures⟩ := hn
    have hprod : ∀ p, (State.addLoads { s with cmt := s.cmt.place n } n).product p = s.product p := fun p => by
      simp [State.product, Commitments.place]
    have hstage : s.StageKept (State.addLoads { s with cmt := s.cmt.place n } n) := .of_eng (by simp) (by simp)
    refine ⟨fun p => ?_, ?_, fun y hy => ?_, fun r' a' x' hjob' hreq' hx' hok' => ?_⟩
    · rw [hprod]
      exact henabled p
    · rw [(State.addLoads_frame _ _).2.2.2.2.2.2.1]
      refine hsound.place ?_ (by simp [hnfigures, hnstate]) (by rw [hnid, hnissue]) fun q hq hqid => ?_
      · rw [hncount, hnproduct]
        exact ⟨hcount, hcount', hproduct⟩
      · rw [hnissue]
        exact hnew q hq (hqid.trans hnid)
    · have hmem : y = n ∨ y ∈ s.cmt.records := by simpa using hy
      have hsame : ∀ y, s.Supports y → (State.addLoads { s with cmt := s.cmt.place n } n).Supports y := fun y hy =>
        hy.stand (fun _ => hprod _) (by simp) (by simp) hstage
      rcases hmem with rfl | hmem
      · refine hsame _ ⟨by simp [hb], fun b' hb' _ => ?_, fun _ => ?_, fun b' _ => ?_⟩
        · obtain rfl := Option.some.inj (hb.symm.trans hb')
          rw [Commitment.last, hnfirst, hncount]
          exact hlast
        · rw [hnproduct, hnquantity, hnzone, hnshares]
          exact ⟨hadmits, hfit⟩
        · simp [State.SnapshotFits, hnstate, hnsnapshot]
      · exact hsame y (hsupports y hmem)
    · have heng : (State.addLoads { s with cmt := s.cmt.place n } n).eng = s.eng := by simp
      rw [heng] at hjob' hx' ⊢
      obtain ⟨hrange, h1, h2, h3, hadm, hfit'⟩ := hscratch r' a' x' hjob' hreq' hx' hok'
      rw [hprod]
      exact ⟨hrange, h1, h2, h3, hadm, hfit'.congr (by simp)⟩

/-! ### A start -/

theorem State.choose_records {s : State} (h : s.RecordInv) : s.choose.RecordInv := by
  obtain heq | ⟨hidle, hstart⟩ := s.choose_started
  · rwa [heq]
  · have hstage : s.StageKept s.choose := fun hrun =>
      ⟨by simpa using hrun, fun _ => by simp [Engine.beforeSnapshots, hidle]⟩
    refine h.same (by simp) (by simp) (by simp) (by simp) (by simp) (by simp) hstage ?_
    generalize s.choose = t at hstart
    cases hstart with
    | none => exact .of_no_admission (by simp [hidle])
    | activation a l _ => exact .of_no_admission (by cases a <;> exact nofun)
    | admission x l _ =>
      rintro r a y hjob hreq hy hok
      obtain rfl : ⟨x, false⟩ = r := by simpa [State.startAdmission] using hjob
      have hreq : x.request = .hold a := hreq
      have hscratch : admissionScratch x.request { s with eng := { s.eng with admission := l } }
          = holdScratch a { s with eng := { s.eng with admission := l } } := by rw [hreq]; rfl
      obtain rfl : holdScratch a { s with eng := { s.eng with admission := l } } = y :=
        hscratch.symm.trans (Option.some.inj hy)
      have hpass := holdCheck_eq_none (holdScratch_accepts hok).1
      have hfit := holdScratch_fits (s := { s with eng := { s.eng with admission := l } }) h.enabled hok
      exact ⟨hpass.range, hpass.count.1, hpass.count.2, hpass.product, hpass.admits, hfit.congr fun _ _ => rfl⟩
    | _ => exact .of_no_admission (by exact nofun)

end Sys2Proof.Machine
end

section
/-! PROOFS. What the commitment records say through the stages of a ROLLOVER and a rollup, and the step lemma on the Book. -/
namespace Sys2Proof.Machine

/-! ### Stages of a ROLLOVER job -/

theorem State.StageKept.of_stages {s t : State} {st st' : RolloverStage} (hjob : s.eng.job = some (.rollover st))
    (hjob' : t.eng.job = some (.rollover st')) (hsupply : t.supply = s.supply) (h : st.early = true → st'.early = true) :
    s.StageKept t := by
  refine fun hrun => ⟨hsupply ▸ hrun, fun hno => Bool.eq_false_iff.mpr fun hyes => ?_⟩
  obtain ⟨x, hx, hearly⟩ := Engine.beforeSnapshots_iff.mp hyes
  obtain rfl : st = x := by simpa [hjob] using hx
  exact absurd (Engine.beforeSnapshots_iff.mpr ⟨st', hjob', h hearly⟩) (by simp [hno])

/-- The Book's records while their table changes: what is said of the table, and of each record. -/
structure State.TableFits (s : State) : Prop where
  enabled : s.EnabledDefined
  fits : s.cmt.Fits
  sound : s.cmt.Sound
  supports : ∀ r ∈ s.cmt.records, s.Supports r

/-- The records of a completed job's table: one leaves for the queue, or becomes SETTLING (R104). -/
theorem State.mem_completeRecord {s : State} (a : Table Account) {r x : Commitment} (hr : r ∈ s.cmt.records) :
    x ∈ (State.completeRecord a s r).cmt.records ↔ (x ∈ s.cmt.records ∧ x.id ≠ r.id)
      ∨ ¬s.cmt.queue.length < Config.settlementCapacity ∧ x = { r with
        state := .settling
        figures := some (settlementFigures r.quantity (r.snapshot.getD {}) (accountOf a r.product)) } := by
  simp only [State.completeRecord, State.raise_cmt]
  split
  · rename_i hroom
    rw [show ∀ f, (s.cmt.settle r f).records = (s.cmt.remove r.id).records from fun _ => rfl, Commitments.mem_remove]
    simp [hroom]
  · rename_i hfull
    refine (Commitments.mem_replace (by exact ⟨r, hr, rfl⟩)).trans ?_
    simp [hfull, or_comm]

theorem State.TableFits.completeRecord {s : State} (h : s.TableFits) (a : Table Account) {r : Commitment}
    (hr : r ∈ s.cmt.records) : (State.completeRecord a s r).TableFits := by
  have hproduct : ∀ p, (State.completeRecord a s r).product p = s.product p := fun p => by simp [State.product]
  refine ⟨fun p => ?_, State.completeRecord_fits h.fits a (h.fits.share_order r hr), ?_, fun x hx => ?_⟩
  · rw [hproduct]
    exact h.enabled p
  · simp only [State.completeRecord, State.raise_cmt]
    split
    · exact h.sound.settle hr _
    · exact h.sound.replace (x := r) rfl rfl rfl rfl (fun y hy hid => h.fits.id_inj hy hr hid) (by simp)
  · rcases (State.mem_completeRecord a hr).mp hx with ⟨hx, -⟩ | ⟨-, rfl⟩
    · exact (h.supports x hx).stand (fun _ => hproduct _) (by simp) (by simp) (.of_eng (by simp) (by simp))
    · exact .of_settling (by simpa using (h.supports r hr).opened) rfl

/-- What each completion keeps, the completion of a list of records of different ids keeps. -/
theorem State.TableFits.foldl_completeRecord {P : State → Prop} {s : State} (h : s.TableFits) (hP : P s) (a : Table Account)
    (l : List Commitment) (hids : (l.map (·.id)).Nodup) (hl : ∀ r ∈ l, r ∈ s.cmt.records)
    (hstep : ∀ u r, r ∈ l → u.TableFits → r ∈ u.cmt.records → P u → P (State.completeRecord a u r)) :
    (l.foldl (State.completeRecord a) s).TableFits ∧ P (l.foldl (State.completeRecord a) s) := by
  induction l generalizing s with
  | nil => exact ⟨h, hP⟩
  | cons r t ih =>
    obtain ⟨hout, ht⟩ := List.nodup_cons.mp hids
    have hr := hl r (.head _)
    refine ih (h.completeRecord a hr) (hstep s r (.head _) h hr hP) ht (fun x hx => ?_) fun u x hx => hstep u x (.tail _ hx)
    refine (State.mem_completeRecord a hr).mpr (.inl ⟨hl x (.tail _ hx), fun heq => hout ?_⟩)
    exact List.mem_map.mpr ⟨x, hx, heq⟩

theorem State.TableFits.stageCompletion {P : State → Prop} {s : State} (h : s.TableFits) (hP : P s) (a : Table Account) (b : Nat)
    (hstep : ∀ u r, r.state = .awarded → r.last = b → u.TableFits → r ∈ u.cmt.records → P u → P (State.completeRecord a u r)) :
    (s.stageCompletion a b).TableFits ∧ P (s.stageCompletion a b) := by
  refine h.foldl_completeRecord hP a _ (List.pairwise_map.mpr ((h.fits.record_order.filter _).imp fun hlt => hlt.ne))
    (fun _ hr => List.mem_of_mem_filter hr) fun u r hr => ?_
  obtain ⟨-, hwhen⟩ := List.mem_filter.mp hr
  simp only [Bool.and_eq_true, beq_iff_eq] at hwhen
  exact hstep u r hwhen.1 hwhen.2

/-- The test of an interval's end at retirement: the records of the interval retired have their snapshots (R105, R108). -/
theorem State.Supports.retired {s t : State} {b : Nat} {r : Commitment} (h : s.Supports r) (hb : s.eng.bookInterval = some b)
    (hb' : t.eng.bookInterval = some (b + 1)) (hcmt : t.cmt = s.cmt) (hfrg : t.frg = s.frg) (hsupply : t.supply = s.supply)
    (hearly : s.eng.beforeSnapshots = false) (hearly' : t.eng.beforeSnapshots = true) : t.Supports r where
  opened := by simp [hb']
  horizon b' hb'' hst := by
    obtain rfl := Option.some.inj (hb'.symm.trans hb'')
    exact (h.horizon b hb hst).trans (by omega)
  shares hst := by
    obtain ⟨hadmits, hfit⟩ := h.shares hst
    rw [State.product, hcmt]
    exact ⟨hadmits, hfit.congr fun _ _ => by rw [hfrg]⟩
  snapshot b' hb'' := by
    obtain rfl := Option.some.inj (hb'.symm.trans hb'')
    obtain ⟨hheld, hbefore, hafter⟩ := h.snapshot b hb
    refine ⟨hheld, fun hst hlt => hbefore hst (by omega), fun hrun hst hwhen => hafter (hsupply ▸ hrun) hst ?_⟩
    rcases hwhen with hlt | ⟨-, hno⟩
    · exact (Nat.lt_succ_iff_lt_or_eq.mp hlt).imp_right fun heq => ⟨heq, hearly⟩
    · exact absurd (hno.symm.trans hearly') nofun

/-- The stage that takes the snapshots of the records starting with the book interval (R108). -/
theorem State.Supports.snapshots {s t : State} {b : Nat} {r : Commitment} (h : s.Supports r) (hb : s.eng.bookInterval = some b)
    (a : Table Account) (hb' : t.eng.bookInterval = some b) (hproducts : t.cmt.products = s.cmt.products) (hfrg : t.frg = s.frg)
    (hsupply : t.supply = s.supply) : t.Supports
      (if r.state = .awarded ∧ r.first = b then { r with snapshot := some (accountOf a r.product) } else r) := by
  have hproduct : ∀ p, t.product p = s.product p := fun p => by rw [State.product, State.product, hproducts]
  have hopened : t.eng.bookInterval ≠ none := by simp [hb']
  have hfit : ∀ {z q l}, s.SharesFit z q l → t.SharesFit z q l := fun hfit => hfit.congr fun _ _ => by rw [hfrg]
  obtain ⟨hheld, hbefore, hafter⟩ := h.snapshot b hb
  by_cases hnow : r.state = .awarded ∧ r.first = b
  · rw [if_pos hnow]
    refine ⟨hopened, fun b' hb'' => ?_, fun hst => ?_, fun b' hb'' => ?_⟩ <;>
      try obtain rfl := Option.some.inj (hb'.symm.trans hb'')
    · exact h.horizon b hb
    · exact (h.shares hst).imp (hproduct _ ▸ ·) hfit
    · exact ⟨fun hst => by simp [hnow.1] at hst, fun _ hlt => by simp [hnow.2] at hlt, fun _ _ _ => rfl⟩
  · rw [if_neg hnow]
    refine ⟨hopened, fun b' hb'' => ?_, fun hst => ?_, fun b' hb'' => ?_⟩ <;>
      try obtain rfl := Option.some.inj (hb'.symm.trans hb'')
    · exact h.horizon b hb
    · exact (h.shares hst).imp (hproduct _ ▸ ·) hfit
    · refine ⟨hheld, hbefore, fun hrun hst hwhen => hafter (hsupply ▸ hrun) hst (.inl ?_)⟩
      exact hwhen.elim id fun heq => absurd ⟨hst, heq.1⟩ hnow

theorem State.TableFits.recordInv {s t : State} (h : s.TableFits) (hcmt : t.cmt = s.cmt) (hfrg : t.frg = s.frg)
    (hbook : t.eng.bookInterval = s.eng.bookInterval) (hstage : s.StageKept t) (hscratch : t.ScratchFits) : t.RecordInv := by
  have hproduct : ∀ p, t.product p = s.product p := fun p => by rw [State.product, State.product, hcmt]
  refine t.recordInv_iff.mpr ⟨fun p => hproduct p ▸ h.enabled p, hcmt ▸ h.sound, fun r hr => ?_, hscratch⟩
  exact (h.supports r (hcmt ▸ hr)).stand (fun _ => hproduct _) (fun _ _ _ => by rw [hfrg]) hbook hstage

theorem State.RecordInv.tableFits {s : State} (h : s.RecordInv) (hbook : s.BookInv) : s.TableFits := by
  obtain ⟨henabled, hsound, hsupports, -⟩ := s.recordInv_iff.mp h
  exact ⟨henabled, hbook.table, hsound, hsupports⟩

/-- What each removal keeps, the expiry stage keeps: the records that go are of the table, and different. -/
theorem State.stageExpiry_keep {P : State → Prop} {s : State} (hids : (s.cmt.records.map (·.id)).Nodup) (hP : P s) (b : Nat)
    (hstep : ∀ u r, r ∈ s.cmt.records → r.state = .held → r.first ≤ b + s.eng.settings.lead → r ∈ u.cmt.records →
      (u.cmt.records.map (·.id)).Nodup → u.eng = s.eng → u.cmt.products = s.cmt.products → P u →
      P ((u.dropCommitment r).raise .holdExpired)) : P (s.stageExpiry b) := by
  unfold State.stageExpiry
  have hwhen : ∀ r ∈ s.cmt.records.filter (fun r => r.state == .held && decide (r.first ≤ b + s.eng.settings.lead)),
      r ∈ s.cmt.records ∧ r.state = .held ∧ r.first ≤ b + s.eng.settings.lead := fun r hr => by simpa using hr
  have hnodup := hids.sublist ((List.filter_sublist (p := fun r => r.state == .held
    && decide (r.first ≤ b + s.eng.settings.lead)) (l := s.cmt.records)).map _)
  generalize s.cmt.records.filter _ = l at hwhen hnodup
  suffices hall : ∀ u : State, (∀ r ∈ l, r ∈ u.cmt.records) → (u.cmt.records.map (·.id)).Nodup → u.eng = s.eng →
      u.cmt.products = s.cmt.products → P u → P (l.foldl (fun t r => (t.dropCommitment r).raise .holdExpired) u) from
    hall s (fun r hr => (hwhen r hr).1) hids rfl rfl hP
  induction l with
  | nil => exact fun u _ _ _ _ hu => hu
  | cons r t ih =>
    intro u hin hu heng hproducts hPu
    obtain ⟨hout, ht⟩ := List.nodup_cons.mp hnodup
    obtain ⟨hr, hheld, hfirst⟩ := hwhen r (.head _)
    refine ih (fun x hx => hwhen x (.tail _ hx)) ht _ (fun x hx => ?_) ?_ (by simpa using heng) (by simpa using hproducts)
      (hstep u r hr hheld hfirst (hin r (.head _)) hu heng hproducts hPu)
    · simp only [State.raise_cmt, State.dropCommitment_frame, Commitments.mem_remove]
      exact ⟨hin x (.tail _ hx), fun heq => hout (List.mem_map.mpr ⟨x, hx, heq⟩)⟩
    · simpa [Commitments.remove] using hu.sublist (List.filter_sublist.map _)

theorem State.RecordInv.expiry {s : State} (h : s.RecordInv) (hids : (s.cmt.records.map (·.id)).Nodup)
    (hno : ∀ x, s.eng.job ≠ some (.admission x)) (b : Nat) : (s.stageExpiry b).RecordInv := by
  refine State.stageExpiry_keep (P := fun u => u.RecordInv) hids h b fun u r _ _ _ _ _ heng _ hu => ?_
  have hno' : ∀ x, u.eng.job ≠ some (.admission x) := by rwa [heng]
  exact (hu.dropped r hno').same (by simp) (by simp) (by simp) (by simp) (by simp) (by simp) (.of_eng (by simp) (by simp))
    (.of_no_admission (by simpa using hno'))

/-- A stage that leaves the table, the groups and b. -/
theorem State.RecordInv.staged {s u : State} {st st' : RolloverStage} (h : s.RecordInv) (hjob : s.eng.job = some (.rollover st))
    (hcmt : u.cmt = s.cmt) (hfrg : u.frg = s.frg) (hsupply : u.supply = s.supply) (hbook : u.eng.bookInterval = s.eng.bookInterval)
    (hearly : st.early = true → st'.early = true) : (u.continueWith (some (.rollover st'))).RecordInv :=
  h.same (by simp [hcmt]) (by simp [hcmt]) (by simp [hcmt]) (by simp [hcmt]) (by simp [hfrg]) hbook
    (.of_stages hjob rfl hsupply hearly) (.of_no_admission (by simp))

theorem State.rolloverEvent_records {s : State} {st st' : RolloverStage} (htime : s.TimeInv) (hbook : s.BookInv)
    (h : s.RecordInv) (hjob : s.eng.job = some (.rollover st)) (h' : (s.rolloverEvent st).2 = some st') :
    ((s.rolloverEvent st).1.continueWith (some (.rollover st'))).RecordInv := by
  have hno : ∀ x, s.eng.job ≠ some (.admission x) := by simp [hjob]
  cases st with
  | between =>
    cases hb : s.eng.bookInterval with
    | none =>
      simp only [State.rolloverEvent, hb, Option.some.injEq] at h' ⊢
      subst h'
      obtain ⟨henabled, hsound, -, -⟩ := s.recordInv_iff.mp h
      refine (State.recordInv_iff _).mpr ⟨henabled, hsound, fun r hr => ?_, .of_no_admission (by simp)⟩
      have hempty : s.cmt.records = [] := h.unopened hb
      have hr : r ∈ s.cmt.records := hr
      simp [hempty] at hr
    | some b =>
      simp only [State.rolloverEvent, hb] at h' ⊢
      split at h'
      · rename_i hlt
        rw [if_pos hlt]
        cases h'
        exact h.staged hjob rfl rfl rfl rfl nofun
      · cases h'
  | completion a =>
    cases h'
    have htable := And.left ((h.tableFits hbook).stageCompletion (P := fun _ => True) trivial a (s.eng.bookInterval.getD 0)
      fun _ _ _ _ _ _ _ => trivial)
    refine htable.recordInv (by simp [State.rolloverEvent]) (by simp [State.rolloverEvent]) rfl ?_ (.of_no_admission (by simp))
    exact .of_stages (st := .completion a) (st' := .retirement a) (by simpa using hjob) rfl rfl nofun
  | retirement a =>
    cases h'
    obtain ⟨b, hb⟩ := Option.isSome_iff_exists.mp (htime.stage_book _ hjob nofun)
    obtain ⟨henabled, hsound, hsupports, -⟩ := s.recordInv_iff.mp h
    refine (State.recordInv_iff _).mpr ⟨henabled, hsound, fun r hr => ?_, .of_no_admission (by simp)⟩
    exact (hsupports r hr).retired hb (by simp [State.rolloverEvent, State.stageRetirement, State.continueWith, hb]) rfl rfl rfl
      (by simp [Engine.beforeSnapshots, hjob]) rfl
  | expiry a =>
    cases h'
    have hexpired := h.expiry (List.pairwise_map.mpr (hbook.record_order.imp fun hlt => hlt.ne)) hno (s.eng.bookInterval.getD 0)
    exact hexpired.staged (st := .expiry a) (by simpa using hjob) rfl rfl rfl rfl fun _ => rfl
  | support a => cases h'; exact h.staged hjob rfl rfl rfl rfl fun _ => rfl
  | intervalEnd a ps => cases ps <;> cases h' <;> exact h.staged hjob rfl rfl rfl rfl fun _ => rfl
  | snapshots a =>
    cases h'
    obtain ⟨b, hb⟩ := Option.isSome_iff_exists.mp (htime.stage_book _ hjob nofun)
    obtain ⟨henabled, hsound, hsupports, -⟩ := s.recordInv_iff.mp h
    refine (State.recordInv_iff _).mpr ⟨henabled, ?_, fun r hr => ?_, .of_no_admission (by simp)⟩
    · refine hsound.mapped (fun r => if r.state = .awarded ∧ r.first = s.eng.bookInterval.getD 0 then
        { r with snapshot := some (accountOf a r.product) } else r) (fun r _ => ?_) (fun r hr => ?_) rfl rfl rfl
      · split <;> exact ⟨rfl, rfl, rfl, rfl⟩
      · split <;> exact hsound.figures r hr
    · obtain ⟨x, hx, rfl⟩ := List.mem_map.mp (show r ∈ s.cmt.records.map _ from hr)
      simp only [hb, Option.getD_some]
      exact (hsupports x hx).snapshots hb a hb rfl rfl rfl
  | nearRescan =>
    cases h'
    exact h.staged hjob (by simp [State.rolloverEvent]) (by simp [State.rolloverEvent]) (by simp [State.rolloverEvent])
      (by simp [State.rolloverEvent]) nofun
  | raise =>
    cases h'
    exact h.staged hjob rfl rfl rfl (State.raiseDispatch_arrived (.refl _)).bookInterval nofun

/-! ### Stages of a rollup -/

theorem State.rollupEvent_records {s : State} {st st' : RollupStage} (h : s.RecordInv)
    (hjob : s.eng.job = some (.rollup st)) (h' : (s.rollupEvent st).2 = some st') :
    ((s.rollupEvent st).1.continueWith (some (.rollup st'))).RecordInv := by
  have heng := (State.rollupEvent_frame h').1
  have hstage : s.StageKept ((s.rollupEvent st).1.continueWith (some (.rollup st'))) := fun hrun =>
    ⟨by simpa using hrun, fun _ => by simp [Engine.beforeSnapshots, hjob]⟩
  have hscratch : ((s.rollupEvent st).1.continueWith (some (.rollup st'))).ScratchFits := .of_no_admission (by simp)
  have hbook : ((s.rollupEvent st).1.continueWith (some (.rollup st'))).eng.bookInterval = s.eng.bookInterval := by
    simp [State.continueWith, heng]
  by_cases hverify : st = .verify
  · subst hverify
    obtain ⟨henabled, hsound, hsupports, -⟩ := s.recordInv_iff.mp h
    have hproduct : ∀ p, ((s.rollupEvent .verify).1.continueWith (some (.rollup st'))).product p = s.product p := fun p => by
      simp [State.product]
    have hrecords : ∃ f : Commitment → Commitment, (s.rollupEvent .verify).1.cmt.records = s.cmt.records.map f
        ∧ ∀ r, ∃ n, f r = { r with shortfalls := n } := by
      simp only [State.rollupEvent, State.attribute]
      split
      · exact ⟨id, by simp, fun r => ⟨r.shortfalls, rfl⟩⟩
      · refine ⟨_, rfl, fun r => ?_⟩
        split
        · exact ⟨_, rfl⟩
        · exact ⟨r.shortfalls, rfl⟩
    obtain ⟨f, hmap, hf⟩ := hrecords
    refine (State.recordInv_iff _).mpr ⟨fun p => ?_, ?_, fun r hr => ?_, hscratch⟩
    · rw [hproduct]
      exact henabled p
    · refine hsound.mapped f (fun r _ => ?_) (fun r hr => ?_) (by simpa using hmap) (by simp) (by simp)
      · obtain ⟨n, hn⟩ := hf r
        rw [hn]
        exact ⟨rfl, rfl, rfl, rfl⟩
      · obtain ⟨n, hn⟩ := hf r
        rw [hn]
        exact hsound.figures r hr
    · simp only [State.continueWith_frame, hmap, List.mem_map] at hr
      obtain ⟨x, hx, rfl⟩ := hr
      obtain ⟨n, hn⟩ := hf x
      rw [hn]
      have hstand := (hsupports x hx).stand (fun _ => hproduct _) (by simp) hbook hstage
      exact ⟨hstand.opened, hstand.horizon, fun hst => (hstand.shares hst).imp_right fun hfit => ⟨hfit.nonempty, hfit.room,
        hfit.each, hfit.sum⟩, hstand.snapshot⟩
  · refine h.same ?_ (by simp) (by simp) (by simp) (by simp) hbook hstage hscratch
    cases st with
    | verify => exact absurd rfl hverify
    | snapshot => rfl
    | figures n => simp [State.rollupEvent, State.rollupFigures]
    | rescan => simp only [State.rollupEvent, State.rollupRescan]; split <;> simp
    | write l => simp only [State.rollupEvent, State.verificationWrite]; split <;> simp
    | trigger => simp [State.rollupEvent]

/-! ### Every event -/

theorem Event.recordInv {s t : State} (htime : s.TimeInv) (hbook : s.BookInv) (h : s.RecordInv) (e : Event s t) : t.RecordInv := by
  rcases e.book_cases with calm | ⟨r, hjob, w⟩ | ⟨r, hjob, c⟩ | ⟨st, st', hjob, hst, rfl⟩ | ⟨st, st', hjob, hst, rfl⟩ | rfl
  · exact h.calm calm
  · refine w.records htime hbook h fun x hx => ?_
    rcases hjob with hj | hj | hj <;> simp [hj] at hx
  · exact c.records hjob h
  · exact State.rolloverEvent_records htime hbook h hjob hst
  · exact State.rollupEvent_records h hjob hst
  · exact State.choose_records h

theorem State.RecordInv.reset : State.reset.RecordInv :=
  (State.recordInv_iff _).mpr ⟨fun _ h => absurd (show false = true from h) nofun,
    ⟨nofun, nofun, nofun, nofun, .nil⟩, nofun, .of_no_admission nofun⟩

theorem State.release_recordInv {s : State} (h : s.RecordInv) : s.release.RecordInv := by
  unfold State.release
  split
  · exact State.RecordInv.reset.same rfl rfl rfl rfl (fun _ _ _ _ _ => rfl) rfl (.of_eng rfl rfl) (.of_no_admission nofun)
  · exact h
  · exact h

theorem State.RecordInv.queue {s : State} (h : s.RecordInv) (l : List Instr) : State.RecordInv { s with pending := l } :=
  h.calm (.of_engine rfl rfl rfl rfl rfl rfl rfl)

/-- Time, the Book and its records at a run of events. -/
theorem Events.records {s t : State} (run : Events s t) (htime : s.TimeInv) (hbook : s.BookInv) (h : s.RecordInv) :
    t.TimeInv ∧ t.BookInv ∧ t.RecordInv :=
  run.keep (P := fun u => u.TimeInv ∧ u.BookInv ∧ u.RecordInv)
    (fun _ _ ⟨hu, hub, hur⟩ e => ⟨(e.time hu).1, e.bookInv hub, e.recordInv hu hub hur⟩) ⟨htime, hbook, h⟩

theorem State.TimeInv.queue {s : State} (h : s.TimeInv) (l : List Instr) : State.TimeInv { s with pending := l } :=
  And.left (h.stand rfl rfl rfl (fun _ hst => hst))

/-- Settles O54, from the elementary events: each keeps the collections, and what the records say. -/
theorem stepKeepsBookInvariant : Obligations.StepKeepsBookInvariant := by
  refine ⟨fun s t h hstep => step_bookInv h hstep, fun s t htime hbook h hstep => ?_⟩
  obtain ⟨-, rfl⟩ | hrun := step_events hstep
  · exact State.release_recordInv (h.queue _)
  · exact (hrun.records (htime.queue _) (hbook.queue _) (h.queue _)).2.2

end Sys2Proof.Machine
end

section
/-! PROOFS. The loads of the Grid (5.2) at every event: each load of the horizon stays the sum of what the HELD and AWARDED
records that cover it contribute. -/
namespace Sys2Proof.Machine

/-! ### The four figures of a quad -/

/-- One of the four figures of a quad. -/
inductive Figure
  | pUp | pDn | eUp | eDn

/-- A quad's figure. -/
def Quad.figure (q : Quad) : Figure → Nat
  | .pUp => q.pUp
  | .pDn => q.pDn
  | .eUp => q.eUp
  | .eDn => q.eDn

theorem Quad.ext_figure {a b : Quad} (h : ∀ k, a.figure k = b.figure k) : a = b := by
  cases a
  cases b
  exact Quad.mk.injEq .. ▸ ⟨h .pUp, h .pDn, h .eUp, h .eDn⟩

@[simp] theorem Quad.figure_add (a b : Quad) (k : Figure) : (a.add b).figure k = a.figure k + b.figure k := by cases k <;> rfl

@[simp] theorem Quad.figure_sub (a b : Quad) (k : Figure) : (a.sub b).figure k = a.figure k - b.figure k := by cases k <;> rfl

@[simp] theorem Quad.figure_zero (k : Figure) : ({} : Quad).figure k = 0 := by cases k <;> rfl

theorem ceilDiv_mono {a b : Nat} (h : a ≤ b) (d : Nat) : ceilDiv a d ≤ ceilDiv b d :=
  Nat.div_le_div_right (by omega)

/-- A larger share contributes no less. -/
theorem contribution_mono (p : Product) {x y : Nat} (h : x ≤ y) (k : Figure) :
    (contribution p x).figure k ≤ (contribution p y).figure k := by
  have he : ceilDiv (x * p.sustain) 60 ≤ ceilDiv (y * p.sustain) 60 := ceilDiv_mono (Nat.mul_le_mul_right _ h) _
  unfold contribution
  cases p.direction <;> cases k <;> first | exact le_rfl | exact h | exact he

@[simp] theorem contribution_zero (p : Product) : contribution p 0 = {} := by
  unfold contribution
  cases p.direction <;> simp [ceilDiv]

/-! ### The sum of the contributions -/

/-- What a record adds to a figure of a pair's load: nothing while SETTLING or outside its range. -/
def State.adds (s : State) (g i : Nat) (k : Figure) (r : Commitment) : Nat :=
  if r.state ≠ .settling ∧ r.covers i = true then (contribution (s.product r.product) (r.shareIn g)).figure k else 0

theorem State.committedLoad_figure (s : State) (g i : Nat) (k : Figure) :
    (s.committedLoad g i).figure k = (s.cmt.records.map (s.adds g i k)).sum := by
  unfold State.committedLoad
  induction s.cmt.records with
  | nil => simp
  | cons r t ih =>
    rw [List.map_cons, List.sum_cons, ← ih, List.filter_cons]
    by_cases h : r.state ≠ .settling ∧ r.covers i = true
    · simp [State.adds, h]
    · have hout : (decide (r.state ≠ .settling) && r.covers i) = false := by
        rw [Bool.eq_false_iff, ne_eq, Bool.and_eq_true, decide_eq_true_eq]
        exact h
      rw [hout]
      simp [State.adds, h]

/-- A pair's load is the sum of what the records contribute to it. -/
def State.LoadFits (s : State) (g i : Nat) : Prop := (s.cgr.entry g i).load = s.committedLoad g i

theorem State.loadFits_iff {s : State} {g i : Nat} :
    s.LoadFits g i ↔ ∀ k, (s.cgr.entry g i).load.figure k = (s.cmt.records.map (s.adds g i k)).sum := by
  constructor
  · intro h k
    rw [← s.committedLoad_figure, ← h]
  · exact fun h => Quad.ext_figure fun k => (h k).trans (s.committedLoad_figure g i k).symm

theorem Commitment.covers_iff {r : Commitment} (h : 1 ≤ r.count) (i : Nat) :
    r.covers i = true ↔ r.first ≤ i ∧ i < r.first + r.count := by
  unfold Commitment.covers Commitment.last
  rw [decide_eq_true_iff]
  omega

theorem sum_map_remove {l : List Commitment} (hids : (l.map (·.id)).Nodup) {r : Commitment} (hr : r ∈ l) (f : Commitment → Nat) :
    ((l.filter (fun x => x.id != r.id)).map f).sum + f r = (l.map f).sum := by
  have honly : l.filter (fun x => x.id == r.id) = [r] := by
    have hsub : (l.filter (fun x => x.id == r.id)).Nodup := (List.Nodup.of_map _ hids).filter _
    refine List.perm_singleton.mp ((List.perm_ext_iff_of_nodup hsub (List.nodup_singleton r)).mpr fun x => ?_)
    simp only [List.mem_filter, beq_iff_eq, List.mem_singleton]
    exact ⟨fun hx => List.inj_on_of_nodup_map hids hx.1 hr hx.2, by rintro rfl; exact ⟨hr, rfl⟩⟩
  have hsplit := ((List.filter_append_perm (fun x => x.id == r.id) l).map f).sum_eq
  rw [honly] at hsplit
  simp only [List.map_append, List.map_cons, List.map_nil, List.sum_append, List.sum_cons, List.sum_nil] at hsplit
  rw [← hsplit]
  simp only [bne, Nat.add_zero]
  omega

theorem sum_map_replace {l : List Commitment} (hids : (l.map (·.id)).Nodup) {r n : Commitment} (hr : r ∈ l) (hid : n.id = r.id)
    (f : Commitment → Nat) : ((l.map (fun x => if x.id = n.id then n else x)).map f).sum + f r = (l.map f).sum + f n := by
  induction l with
  | nil => cases hr
  | cons x t ih =>
    obtain ⟨hout, ht⟩ := List.nodup_cons.mp hids
    rcases List.mem_cons.mp hr with rfl | hr
    · have hrest : t.map (fun x => if x.id = n.id then n else x) = t := by
        refine (List.map_congr_left fun y hy => if_neg fun heq => hout ?_).trans (List.map_id' t)
        exact List.mem_map.mpr ⟨y, hy, heq.trans hid⟩
      rw [List.map_cons, List.map_cons, List.sum_cons, List.map_cons, List.sum_cons, hrest, if_pos hid.symm]
      omega
    · have hne : x.id ≠ n.id := fun heq => hout (List.mem_map.mpr ⟨r, hr, (heq.trans hid).symm⟩)
      have := ih ht hr
      simp only [List.map_cons, List.sum_cons, if_neg hne] at this ⊢
      omega

/-! ### Changes of loads -/

theorem Commitment.shareIn_of_mem {r : Commitment} (h : r.shares.Pairwise (fun a b => a.group < b.group)) {x : Share}
    (hx : x ∈ r.shares) : r.shareIn x.group = x.power := by
  unfold Commitment.shareIn
  have hone := filter_group_of_mem h hx
  rw [← List.head?_filter]
  have heq : r.shares.filter (fun y => y.group == x.group) = [x] := by simpa [beq_eq_decide] using hone
  simp [heq]

theorem Commitment.shareIn_of_not_mem {r : Commitment} {g : Nat} (h : ∀ x ∈ r.shares, x.group ≠ g) : r.shareIn g = 0 := by
  unfold Commitment.shareIn
  rw [List.find?_eq_none.mpr (by simpa using h)]

/-- A group has at most one share of a record: the change of its load is that of the share, or of a share of 0. -/
theorem Commitment.foldl_share {r : Commitment} (h : r.shares.Pairwise (fun a b => a.group < b.group)) (g : Nat)
    (figure : Share → Quad) (op : Quad → Quad → Quad) (F : Nat → Quad) (hF : ∀ x ∈ r.shares, x.group = g → figure x = F x.power)
    (hzero : ∀ q, op q (F 0) = q) (q : Quad) :
    (r.shares.filter (fun x => decide (x.group = g))).foldl (fun l x => op l (figure x)) q = op q (F (r.shareIn g)) := by
  by_cases hg : ∃ x ∈ r.shares, x.group = g
  · obtain ⟨x, hx, rfl⟩ := hg
    rw [filter_group_of_mem h hx, Commitment.shareIn_of_mem h hx]
    simp [hF x hx rfl]
  · have hno : ∀ x ∈ r.shares, x.group ≠ g := fun x hx heq => hg ⟨x, hx, heq⟩
    rw [List.filter_eq_nil_iff.mpr (by simpa using hno), Commitment.shareIn_of_not_mem hno, hzero]
    rfl

theorem Grid.entry_congr {c d : Grid} (h : d.ring = c.ring) (g i : Nat) : d.entry g i = c.entry g i := by
  rw [Grid.entry, Grid.entry, h]

theorem State.adds_congr {s t : State} (h : t.cmt.products = s.cmt.products) : t.adds = s.adds := by
  funext g i k r
  rw [State.adds, State.adds, State.product, State.product, h]

section
variable {s : State} {b g i : Nat} {r : Commitment} (hb : s.eng.bookInterval = some b) (hg : g < Config.numGroups)
  (hi : b ≤ i ∧ i < b + Config.horizon) (hgroups : ∀ x ∈ r.shares, x.group < Config.numGroups) (hcount : 1 ≤ r.count)
  (hordered : r.shares.Pairwise (fun a b => a.group < b.group))
include hb hg hi hgroups hcount hordered

/-- A change of the loads of a record's range: each covered pair takes one figure. -/
theorem State.changeLoads_load (figure : Share → Quad) (op : Quad → Quad → Quad) (F : Nat → Quad)
    (hF : ∀ x ∈ r.shares, x.group = g → figure x = F x.power) (hzero : ∀ q, op q (F 0) = q) :
    ((s.changeLoads r.first r.count r.shares figure op).cgr.entry g i).load =
      if r.covers i = true then op (s.cgr.entry g i).load (F (r.shareIn g)) else (s.cgr.entry g i).load := by
  rw [State.changeLoads_entry s r.first r.count r.shares figure op hb hgroups hg hi]
  simp only [Commitment.covers_iff hcount]
  split
  · exact Commitment.foldl_share hordered g figure op F hF hzero _
  · rfl

/-- A record leaves with its loads. -/
theorem State.dropCommitment_loadFits (h : s.LoadFits g i) (hids : (s.cmt.records.map (·.id)).Nodup) (hr : r ∈ s.cmt.records)
    (hst : r.state ≠ .settling) : (s.dropCommitment r).LoadFits g i := by
  rw [State.loadFits_iff] at h ⊢
  intro k
  have hload : ((s.dropCommitment r).cgr.entry g i).load = if r.covers i = true then
      (s.cgr.entry g i).load.sub (contribution (s.product r.product) (r.shareIn g)) else (s.cgr.entry g i).load := by
    rw [Grid.entry_congr (c := (s.subtractLoads r).cgr) (by simp)]
    exact State.changeLoads_load hb hg hi hgroups hcount hordered _ _ _ (fun _ _ _ => rfl) (by simp [Quad.sub])
  have hsum := sum_map_remove hids hr (s.adds g i k)
  have hold := h k
  rw [hload, State.adds_congr (s := s) (by simp)]
  rw [show (s.dropCommitment r).cmt.records = s.cmt.records.filter (fun x => x.id != r.id) by simp [Commitments.remove]]
  by_cases hcovers : r.covers i = true
  · have hadds : s.adds g i k r = (contribution (s.product r.product) (r.shareIn g)).figure k := if_pos ⟨hst, hcovers⟩
    rw [if_pos hcovers, Quad.figure_sub, ← hadds]
    omega
  · have hadds : s.adds g i k r = 0 := if_neg fun hboth => hcovers hboth.2
    rw [if_neg hcovers]
    omega

/-- A record comes with its loads. -/
theorem State.addLoads_loadFits (h : s.LoadFits g i) (hst : r.state ≠ .settling) :
    (State.addLoads { s with cmt := s.cmt.place r } r).LoadFits g i := by
  rw [State.loadFits_iff] at h ⊢
  intro k
  have hload : ((State.addLoads { s with cmt := s.cmt.place r } r).cgr.entry g i).load = if r.covers i = true then
      (s.cgr.entry g i).load.add (contribution (s.product r.product) (r.shareIn g)) else (s.cgr.entry g i).load :=
    State.changeLoads_load (s := { s with cmt := s.cmt.place r }) hb hg hi hgroups hcount hordered _ _ _ (fun _ _ _ => rfl)
      (by simp [Quad.add])
  have hsum : (((s.cmt.place r).records).map (s.adds g i k)).sum = s.adds g i k r + (s.cmt.records.map (s.adds g i k)).sum := by
    rw [Commitments.place, ((insertBy_perm _ r s.cmt.records).map _).sum_eq, List.map_cons, List.sum_cons]
  have hold := h k
  rw [hload, State.adds_congr (s := s) (by simp [Commitments.place]), (State.addLoads_frame _ _).2.2.2.2.2.2.1, hsum]
  by_cases hcovers : r.covers i = true
  · have hadds : s.adds g i k r = (contribution (s.product r.product) (r.shareIn g)).figure k := if_pos ⟨hst, hcovers⟩
    rw [if_pos hcovers, Quad.figure_add, ← hadds]
    omega
  · have hadds : s.adds g i k r = 0 := if_neg fun hboth => hcovers hboth.2
    rw [if_neg hcovers]
    omega

omit hb hg hi hgroups hcount in
/-- An award leaves no group a larger share. -/
theorem Commitment.reduced_shareIn_le {q : Nat} (hsum : (r.shares.map (·.power)).sum = r.quantity) (hpos : 0 < r.quantity)
    (hq : q ≤ r.quantity) (g : Nat) : (r.reduced q).shareIn g ≤ r.shareIn g := by
  have hordered' := Commitment.reduced_ordered hordered q
  by_cases hg : ∃ x ∈ (r.reduced q).shares, x.group = g
  · obtain ⟨x, hx, rfl⟩ := hg
    rw [Commitment.shareIn_of_mem hordered' hx]
    obtain ⟨-, w, hw, hgroup, hpower⟩ := mem_allocate.mp hx
    have hkeys : ((r.shares.map (fun x => (x.group, x.power))).map (·.1)).Nodup := by
      rw [List.map_map]
      exact List.pairwise_map.mpr (hordered.imp fun hlt => hlt.ne)
    have htotal : r.quantity = ((byGroup (r.shares.map (fun x => (x.group, x.power)))).map (·.2)).sum := by
      rw [byGroup_sum, List.map_map, ← hsum]
      rfl
    have hle := share_le_weight (byGroup_nodup hkeys) htotal hpos hq (mem_byGroup.mpr hw)
    obtain ⟨y, hy, rfl⟩ := List.mem_map.mp hw
    rw [hgroup, Commitment.shareIn_of_mem hordered hy, hpower]
    exact hle
  · rw [Commitment.shareIn_of_not_mem fun x hx heq => hg ⟨x, hx, heq⟩]
    exact Nat.zero_le _

/-- The loads that an award leaves: each covered pair gives up the difference of two contributions (R128). -/
theorem State.awardDrop_load (q : Nat) :
    ((s.changeLoads r.first r.count r.shares (awardDrop (s.product r.product) (r.reduced q)) Quad.sub).cgr.entry g i).load =
      if r.covers i = true then (s.cgr.entry g i).load.sub ((contribution (s.product r.product) (r.shareIn g)).sub
        (contribution (s.product r.product) ((r.reduced q).shareIn g))) else (s.cgr.entry g i).load := by
  refine State.changeLoads_load hb hg hi hgroups hcount hordered _ _
    (fun power => (contribution (s.product r.product) power).sub (contribution (s.product r.product) ((r.reduced q).shareIn g)))
    (fun x _ hx => by rw [awardDrop, hx]) fun load => ?_
  refine Quad.ext_figure fun k => ?_
  simp

end

theorem State.awarded_loadFits {s : State} {b g i : Nat} {r : Commitment} {q : Nat} (hb : s.eng.bookInterval = some b)
    (hg : g < Config.numGroups) (hi : b ≤ i ∧ i < b + Config.horizon) (hcount : 1 ≤ r.count)
    (hordered : r.shares.Pairwise (fun a b => a.group < b.group)) (h : s.LoadFits g i)
    (hids : (s.cmt.records.map (·.id)).Nodup) (hr : r ∈ s.cmt.records) (hst : r.state ≠ .settling)
    (hfit : s.SharesFit r.zone r.quantity r.shares) (hq : q ≤ r.quantity) {t : State}
    (hring : t.cgr.ring = (s.changeLoads r.first r.count r.shares (awardDrop (s.product r.product) (r.reduced q)) Quad.sub).cgr.ring)
    (hcmt : t.cmt = s.cmt.replace (r.reduced q)) : t.LoadFits g i := by
  rw [State.loadFits_iff] at h ⊢
  intro k
  have hgroups : ∀ x ∈ r.shares, x.group < Config.numGroups := fun x hx => (hfit.each x hx).2.1
  have hpos : 0 < r.quantity := by
    obtain ⟨x, t, hx⟩ := List.exists_cons_of_ne_nil hfit.nonempty
    have hone := (hfit.each x (hx ▸ .head _)).1
    have hsum := hfit.sum
    rw [hx, List.map_cons, List.sum_cons] at hsum
    omega
  have hload := State.awardDrop_load hb hg hi hgroups hcount hordered q
  have hsum := sum_map_replace hids hr (n := r.reduced q) rfl (s.adds g i k)
  have hold := h k
  have hmem : s.adds g i k r ≤ (s.cmt.records.map (s.adds g i k)).sum :=
    List.le_sum_of_mem (List.mem_map_of_mem hr)
  have hless := contribution_mono (s.product r.product) (Commitment.reduced_shareIn_le hordered hfit.sum hpos hq g) k
  rw [Grid.entry_congr hring, hload, State.adds_congr (s := s) (by simp [hcmt]), hcmt,
    show (s.cmt.replace (r.reduced q)).records = s.cmt.records.map (fun x => if x.id = (r.reduced q).id then r.reduced q else x)
      from rfl]
  by_cases hcovers : r.covers i = true
  · have hadds : s.adds g i k r = (contribution (s.product r.product) (r.shareIn g)).figure k := if_pos ⟨hst, hcovers⟩
    have hadds' : s.adds g i k (r.reduced q) = (contribution (s.product r.product) ((r.reduced q).shareIn g)).figure k :=
      if_pos ⟨nofun, hcovers⟩
    rw [if_pos hcovers, Quad.figure_sub, Quad.figure_sub, ← hadds, ← hadds']
    omega
  · have hadds : s.adds g i k r = 0 := if_neg fun hboth => hcovers hboth.2
    have hadds' : s.adds g i k (r.reduced q) = 0 := if_neg fun hboth => hcovers hboth.2
    rw [if_neg hcovers]
    omega

end Sys2Proof.Machine
end

section
/-! PROOFS. The loads of the Grid through every event, and what a HOLD leaves of them (5.2). -/
namespace Sys2Proof.Machine

/-! ### Events that leave the loads -/

/-- The same loads and contributions of the same horizon; the retirement of an interval in progress stands. -/
theorem State.LoadInv.keep {s t : State} (h : s.LoadInv) (hrun : t.supply = .running → s.supply = .running
      ∧ ∀ a, s.eng.job = some (.rollover (.retirement a)) → t.eng.job = some (.rollover (.retirement a)))
    (hbook : t.eng.bookInterval = s.eng.bookInterval)
    (hloads : ∀ b g i, s.eng.bookInterval = some b → g < Config.numGroups → b ≤ i ∧ i < b + Config.horizon → s.LoadFits g i →
      t.LoadFits g i) : t.LoadInv := by
  intro hsupply b g i hb hg hlow hhigh hstage
  obtain ⟨hsupply', hjob⟩ := hrun hsupply
  rw [hbook] at hb
  exact hloads b g i hb hg ⟨hlow, hhigh⟩ (h hsupply' b g i hb hg hlow hhigh fun hi a ha => hstage hi a (hjob a ha))

theorem State.LoadFits.congr {s t : State} {g i : Nat} (h : s.LoadFits g i)
    (hload : (t.cgr.entry g i).load = (s.cgr.entry g i).load)
    (hadds : ∀ k, (t.cmt.records.map (t.adds g i k)).sum = (s.cmt.records.map (s.adds g i k)).sum) : t.LoadFits g i := by
  rw [State.loadFits_iff] at h ⊢
  exact fun k => by rw [hload, h k, hadds k]

/-- The table's products and records, and the ring, stand. -/
theorem State.LoadFits.same {s t : State} {g i : Nat} (h : s.LoadFits g i) (hring : t.cgr.ring = s.cgr.ring)
    (hrecords : t.cmt.records = s.cmt.records) (hproducts : t.cmt.products = s.cmt.products) : t.LoadFits g i :=
  h.congr (by rw [Grid.entry_congr hring]) fun k => by rw [hrecords, State.adds_congr hproducts]

/-- Records that change in nothing that a load is made of. -/
theorem State.LoadFits.mapped {s t : State} {g i : Nat} (h : s.LoadFits g i) (hring : t.cgr.ring = s.cgr.ring)
    (hproducts : t.cmt.products = s.cmt.products) (f : Commitment → Commitment) (hrecords : t.cmt.records = s.cmt.records.map f)
    (hf : ∀ r, (f r).state = r.state ∧ (f r).first = r.first ∧ (f r).count = r.count ∧ (f r).product = r.product
      ∧ (f r).shares = r.shares) : t.LoadFits g i := by
  refine h.congr (by rw [Grid.entry_congr hring]) fun k => ?_
  rw [hrecords, State.adds_congr hproducts, List.map_map]
  refine congrArg List.sum (List.map_congr_left fun r _ => ?_)
  obtain ⟨hstate, hfirst, hcount, hproduct, hshares⟩ := hf r
  have hcovers : (f r).covers i = r.covers i := Bool.eq_iff_iff.mpr <| by
    unfold Commitment.covers Commitment.last
    rw [decide_eq_true_iff, decide_eq_true_iff, hfirst, hcount]
  have hshare : (f r).shareIn g = r.shareIn g := by simp only [Commitment.shareIn, hshares]
  simp only [Function.comp_apply, State.adds, hstate, hcovers, hproduct, hshare]

/-! ### Work of requests -/

theorem Grid.writeForecasts_load (c : Grid) (g i : Nat) (l : List ForecastArgs) (h j : Nat) :
    ((c.writeForecasts g i l).entry h j).load = (c.entry h j).load := by
  induction l generalizing c i with
  | nil => rfl
  | cons e t ih =>
    rw [Grid.writeForecasts, ih, Grid.entry_modify]
    split
    · rename_i hkey
      rw [Grid.entry, Grid.entry, hkey]
    · rfl

theorem State.RecordInv.groups {s : State} (h : s.RecordInv) {r : Commitment} (hr : r ∈ s.cmt.records) (hst : r.state ≠ .settling) :
    ∀ x ∈ r.shares, x.group < Config.numGroups := fun x hx => ((h.shares r hr hst).2.each x hx).2.1

theorem State.BookInv.ids {s : State} (h : s.BookInv) : (s.cmt.records.map (·.id)).Nodup :=
  List.pairwise_map.mpr (h.record_order.imp fun hlt => hlt.ne)

theorem sum_map_filter_of_zero {α : Type} (p : α → Bool) (f : α → Nat) (l : List α) (h : ∀ x ∈ l, p x = false → f x = 0) :
    ((l.filter p).map f).sum = (l.map f).sum := by
  induction l with
  | nil => rfl
  | cons x t ih =>
    have ih := ih fun y hy => h y (.tail _ hy)
    cases hp : p x with
    | true => simp [hp, ih]
    | false => simp [hp, ih, h x (.head _) hp]

theorem Commitments.foldl_settle_records (figures : Commitment → Figures) (l : List Commitment) (c : Commitments) :
    (l.foldl (fun c r => c.settle r (figures r)) c).records = c.records.filter (fun x => decide (∀ r ∈ l, x.id ≠ r.id)) := by
  induction l generalizing c with
  | nil => simp
  | cons r t ih =>
    have hsettle : (c.settle r (figures r)).records = c.records.filter (fun x => x.id != r.id) := rfl
    rw [List.foldl_cons, ih, hsettle, List.filter_filter]
    refine List.filter_congr fun x _ => ?_
    simp only [List.mem_cons, forall_eq_or_imp, Bool.decide_and, bne, beq_eq_decide, decide_not]
    exact Bool.and_comm _ _

@[simp] theorem State.adds_settling {s : State} {r : Commitment} (h : r.state = .settling) (g i : Nat) (k : Figure) :
    s.adds g i k r = 0 := if_neg fun hboth => hboth.1 h

theorem State.adds_of_not_covers {s : State} {r : Commitment} {i : Nat} (h : r.covers i = false) (g : Nat) (k : Figure) :
    s.adds g i k r = 0 := if_neg fun hboth => by simp [h] at hboth

theorem Worked.loads {s t : State} (hbook : s.BookInv) (h : s.RecordInv) (hl : s.LoadInv) (w : Worked s t) : t.LoadInv := by
  obtain ⟨hsupply, -, -, -, -, -, -, heng⟩ := w.frame
  refine hl.keep (fun hrun => ⟨hsupply ▸ hrun, fun a ha => w.job.trans ha⟩) (by rw [heng]) fun b g i hb hg hi hfits => ?_
  cases w with
  | forecasts g' i' l =>
    refine hfits.congr ?_ fun k => by rw [State.adds_congr (s := s) (by simp)]; simp
    rw [Grid.entry_congr (c := s.cgr.writeForecasts g' i' l) (State.rescan_frame _ _).2.2.2.2.2.2.2.2.2.2.2,
      Grid.writeForecasts_load]
  | dropped r hrec hst =>
    obtain ⟨hr, -⟩ := Commitments.record_mem hrec
    exact State.dropCommitment_loadFits hb hg hi (h.groups hr hst) (h.range r hr).1 (hbook.share_order r hr) hfits hbook.ids hr hst
  | awarded r q hrec hheld _ _ hle _ =>
    obtain ⟨hr, -⟩ := Commitments.record_mem hrec
    have hst : r.state ≠ .settling := by simp [hheld]
    exact State.awarded_loadFits hb hg hi (h.range r hr).1 (hbook.share_order r hr) hfits hbook.ids hr hst (h.shares r hr hst).2
      hle (by rw [(State.rescan_frame _ _).2.2.2.2.2.2.2.2.2.2.2]) (by rw [(State.rescan_frame _ _).2.2.2.2.2.2.1])
  | product a _ href _ =>
    refine hfits.congr rfl fun k => congrArg List.sum (List.map_congr_left fun r hr => ?_)
    by_cases hst : r.state = .settling
    · rw [State.adds_settling hst, State.adds_settling hst]
    · have hne : r.product ≠ a.product.toNat := fun heq => by
        have hmem : r ∈ s.cmt.records := hr
        rw [← heq, State.referenced_of_record hmem hst] at href
        cases href
      rw [State.adds, State.adds, State.product, State.product, Table.get_set_ne hne]
  | settlements =>
    refine hfits.congr rfl fun k => ?_
    rw [State.adds_congr (s := s) (readSettlementWork_products s)]
    refine (congrArg (fun l => (l.map (s.adds g i k)).sum) (Commitments.foldl_settle_records _ _ _)).trans ?_
    refine sum_map_filter_of_zero _ _ s.cmt.records fun x hx hout => ?_
    simp only [decide_eq_false_iff_not, not_forall, ne_eq, not_not] at hout
    obtain ⟨r, hr, hid⟩ := hout
    obtain ⟨hr, hst⟩ := Commitments.mem_settling.mp (List.mem_of_mem_take hr)
    rw [hbook.table.id_inj hx hr hid]
    exact State.adds_settling hst g i k
  | rescanned a _ => exact hfits.same (by simp) (by simp) (by simp)
  | _ => exact hfits.same rfl rfl rfl

/-! ### The commit of an ADMISSION job -/

theorem Committed.loads {s t : State} {r : Running} (hjob : s.eng.job = some (.admission r)) (hbook : s.BookInv) (h : s.RecordInv)
    (hl : s.LoadInv) (c : Committed r s t) : t.LoadInv := by
  obtain ⟨hsupply, -, -, -, -, heng, -⟩ := c.frame
  refine hl.keep (fun hrun => ⟨hsupply ▸ hrun, fun a ha => heng ▸ ha⟩) (by rw [heng]) fun b g i hb hg hi hfits => ?_
  cases c with
  | nothing => exact hfits
  | held a x id hreq hx hok _ _ =>
    obtain ⟨-, hcount, -, -, -, hfit⟩ := h.scratch r a x hjob hreq hx hok
    exact State.addLoads_loadFits hb hg hi (fun y hy => (hfit.each y hy).2.1) hcount (hbook.scratch_order x hx) hfits nofun

/-! ### Stages of a ROLLOVER job -/

/-- Completion touches the loads of the interval retired alone, which go with its slot (R66, R104). -/
theorem State.completeRecord_loadFits {s : State} {g i : Nat} (a : Table Account) {r : Commitment} (h : s.LoadFits g i)
    (hids : (s.cmt.records.map (·.id)).Nodup) (hr : r ∈ s.cmt.records) (hout : r.covers i = false) :
    (State.completeRecord a s r).LoadFits g i := by
  refine h.congr (by simp) fun k => ?_
  rw [State.adds_congr (s := s) (by simp)]
  simp only [State.completeRecord, State.raise_cmt]
  have hzero : s.adds g i k r = 0 := State.adds_of_not_covers hout g k
  split
  · have hsum := sum_map_remove hids hr (s.adds g i k)
    rw [hzero] at hsum
    exact hsum
  · refine Nat.add_right_cancel (sum_map_replace hids hr (by rfl) (s.adds g i k) |>.trans ?_)
    rw [hzero, State.adds_settling (by rfl)]

theorem State.stageCompletion_loadFits {s : State} {g i b : Nat} (a : Table Account) (h : s.LoadFits g i) (htable : s.TableFits)
    (hlt : b < i) : (s.stageCompletion a b).LoadFits g i := by
  refine And.right (htable.stageCompletion (P := fun u => u.LoadFits g i) h a b fun u r _ hlast hu hr hfits => ?_)
  refine State.completeRecord_loadFits a hfits (List.pairwise_map.mpr (hu.fits.record_order.imp fun hlt => hlt.ne)) hr ?_
  simp only [Commitment.covers, decide_eq_false_iff_not, not_and, Nat.not_le]
  omega

/-- Retirement zeroes the slot of the interval retired, for the interval 96 after it (R64, R66). -/
theorem Grid.retire_entry (c : Grid) (b g i : Nat) (hg : g < Config.numGroups) :
    (c.retire b).entry g i = if i % Config.horizon = b % Config.horizon then {} else c.entry g i := by
  have hslot : ringKey g i / 64 = i % Config.horizon := by
    simp only [ringKey, Config.horizon, Config.numGroups] at hg ⊢
    omega
  unfold Grid.entry
  split
  · rename_i hsame
    refine Table.get_of_not_key fun e he heq => ?_
    have hout := (List.mem_filter.mp he).2
    simp [heq, hslot, hsame] at hout
  · rename_i hother
    exact Table.get_filter _ fun w => by simp [hslot, hother]

theorem State.expiry_loads {s : State} (hbook : s.BookInv) (h : s.RecordInv) {bi b g i : Nat} (hb : s.eng.bookInterval = some bi)
    (hg : g < Config.numGroups) (hi : bi ≤ i ∧ i < bi + Config.horizon) (hfits : s.LoadFits g i) :
    (s.stageExpiry b).LoadFits g i := by
  refine State.stageExpiry_keep (P := fun u => u.LoadFits g i) hbook.ids hfits b fun u r hr hheld _ hru hids heng _ hu => ?_
  have hst : r.state ≠ .settling := by simp [hheld]
  have hdrop := State.dropCommitment_loadFits (heng ▸ hb) hg hi (h.groups hr hst) (h.range r hr).1 (hbook.share_order r hr) hu hids
    hru hst
  exact hdrop.same (by simp) (by simp) (by simp)

theorem State.rolloverEvent_loads {s : State} {st st' : RolloverStage} (htime : s.TimeInv) (hbook : s.BookInv) (h : s.RecordInv)
    (hl : s.LoadInv) (hjob : s.eng.job = some (.rollover st)) (h' : (s.rolloverEvent st).2 = some st') :
    ((s.rolloverEvent st).1.continueWith (some (.rollover st'))).LoadInv := by
  by_cases hmoves : st = .between ∨ (∃ a, st = .completion a) ∨ ∃ a, st = .retirement a
  · obtain rfl | ⟨a, rfl⟩ | ⟨a, rfl⟩ := hmoves
    · cases hb : s.eng.bookInterval with
      | none =>
        simp only [State.rolloverEvent, hb, Option.some.injEq] at h' ⊢
        subst h'
        intro _ b g i _ _ _ _ _
        have hempty : s.cmt.records = [] := h.unopened hb
        refine State.loadFits_iff.mpr fun k => ?_
        rw [show (s.initRing.continueWith (some (.rollover .between))).cmt.records = [] from hempty]
        exact Quad.figure_zero k
      | some b =>
        simp only [State.rolloverEvent, hb] at h' ⊢
        split at h'
        · rename_i hlt
          rw [if_pos hlt]
          exact hl.keep (fun hrun => ⟨hrun, fun a ha => by simp [hjob] at ha⟩) rfl fun _ _ _ _ _ _ hfits => hfits
        · cases h'
    · cases h'
      intro hrun b g i hb hg hlow hhigh hstage
      have hb : s.eng.bookInterval = some b := by simpa [State.rolloverEvent, State.continueWith] using hb
      have hlt : b < i := lt_of_le_of_ne hlow fun heq => hstage heq.symm a rfl
      have hsupply : s.supply = .running := by simpa using hrun
      have hfits : s.LoadFits g i := hl hsupply b g i hb hg hlow hhigh fun heq => absurd heq hlt.ne'
      have hcomplete := State.stageCompletion_loadFits a hfits (h.tableFits hbook) hlt
      refine hcomplete.same ?_ ?_ ?_ <;> simp [State.rolloverEvent, hb]
    · cases h'
      obtain ⟨b, hb⟩ := Option.isSome_iff_exists.mp (htime.stage_book _ hjob nofun)
      intro hrun b' g i hb' hg hlow hhigh _
      obtain rfl : b + 1 = b' := by simpa [State.rolloverEvent, State.stageRetirement, State.continueWith, hb] using hb'
      have hrecords : ∀ k, (((s.rolloverEvent (.retirement a)).1.continueWith (some (.rollover (.expiry a)))).cmt.records.map
          (State.adds ((s.rolloverEvent (.retirement a)).1.continueWith (some (.rollover (.expiry a)))) g i k)).sum
          = (s.cmt.records.map (s.adds g i k)).sum := fun k => rfl
      have hentry : ((s.rolloverEvent (.retirement a)).1.continueWith (some (.rollover (.expiry a)))).cgr.entry g i
          = if i % Config.horizon = b % Config.horizon then {} else s.cgr.entry g i := by
        rw [← Grid.retire_entry s.cgr b g i hg]
        simp [State.rolloverEvent, State.stageRetirement, hb]
      by_cases hnew : i = b + 96
      · refine State.loadFits_iff.mpr fun k => ?_
        rw [hentry, if_pos (by rw [hnew, Config.horizon, Nat.add_mod_right]), hrecords,
          List.sum_eq_zero (by
            intro n hn
            obtain ⟨r, hr, rfl⟩ := List.mem_map.mp hn
            by_cases hst : r.state = .settling
            · exact State.adds_settling hst g i k
            · have hlast := h.horizon b hb r hr hst
              refine State.adds_of_not_covers ?_ g k
              simp only [Commitment.covers, decide_eq_false_iff_not, not_and, Nat.not_le]
              omega)]
        exact Quad.figure_zero k
      · have hfits : s.LoadFits g i := hl (by simpa using hrun) b g i hb hg (by omega)
          (by simp only [Config.horizon] at hhigh ⊢; omega) fun heq => by omega
        refine hfits.congr ?_ hrecords
        rw [hentry, if_neg]
        simp only [Config.horizon] at hhigh ⊢
        omega
  · have hkeep : ∀ b g i, s.eng.bookInterval = some b → g < Config.numGroups → b ≤ i ∧ i < b + Config.horizon → s.LoadFits g i →
        ((s.rolloverEvent st).1.continueWith (some (.rollover st'))).LoadFits g i := by
      intro b g i hb hg hi hfits
      have hcontinue : (s.rolloverEvent st).1.LoadFits g i →
          ((s.rolloverEvent st).1.continueWith (some (.rollover st'))).LoadFits g i := fun hu =>
        hu.same (by simp) (by simp) (by simp)
      refine hcontinue ?_
      cases st with
      | between => exact absurd (.inl rfl) hmoves
      | completion a => exact absurd (.inr (.inl ⟨a, rfl⟩)) hmoves
      | retirement a => exact absurd (.inr (.inr ⟨a, rfl⟩)) hmoves
      | expiry a => exact State.expiry_loads hbook h hb hg hi hfits
      | snapshots a =>
        refine hfits.mapped rfl rfl (fun r => if r.state = .awarded ∧ r.first = s.eng.bookInterval.getD 0 then
          { r with snapshot := some (accountOf a r.product) } else r) rfl fun r => ?_
        split <;> exact ⟨rfl, rfl, rfl, rfl, rfl⟩
      | intervalEnd a ps => cases ps <;> exact hfits.same rfl rfl rfl
      | nearRescan => exact hfits.same (by simp [State.rolloverEvent]) (by simp [State.rolloverEvent]) (by simp [State.rolloverEvent])
      | support a => exact hfits.same rfl rfl rfl
      | raise => exact hfits.same rfl rfl rfl
    have hbook' : (s.rolloverEvent st).1.eng.bookInterval = s.eng.bookInterval := by
      cases st with
      | between => exact absurd (.inl rfl) hmoves
      | retirement a => exact absurd (.inr (.inr ⟨a, rfl⟩)) hmoves
      | raise => exact (State.raiseDispatch_arrived (.refl _)).bookInterval
      | intervalEnd a ps => cases ps <;> rfl
      | _ => simp [State.rolloverEvent]
    refine hl.keep (fun hrun => ⟨by simpa using hrun, fun a ha => ?_⟩) (by simpa [State.continueWith] using hbook') hkeep
    exact absurd (.inr (.inr ⟨a, by simpa [hjob] using ha⟩)) hmoves

/-! ### Every event -/

theorem Event.loads {s t : State} (htime : s.TimeInv) (hbook : s.BookInv) (h : s.RecordInv) (hl : s.LoadInv) (e : Event s t) :
    t.LoadInv := by
  rcases e.book_cases with calm | ⟨r, -, w⟩ | ⟨r, hjob, c⟩ | ⟨st, st', hjob, hst, rfl⟩ | ⟨st, st', hjob, hst, rfl⟩ | rfl
  · refine hl.keep (fun hrun => ⟨(calm.stage hrun).1, fun a ha => (calm.stage hrun).2 _ ha nofun⟩) calm.book
      fun b g i _ _ _ hfits => hfits.same (by rw [calm.cgr]) (by rw [calm.cmt]) (by rw [calm.cmt])
  · exact w.loads hbook h hl
  · exact c.loads hjob hbook h hl
  · exact State.rolloverEvent_loads htime hbook h hl hjob hst
  · refine hl.keep (fun hrun => ⟨by simpa using hrun, fun a ha => by simp [hjob] at ha⟩)
      (by simp [State.continueWith, (State.rollupEvent_frame hst).1]) fun b g i hb _ _ hfits => ?_
    by_cases hverify : st = .verify
    · subst hverify
      refine hfits.mapped (by simp) (by simp) (fun r => if r.state = .awarded ∧ r.covers b = true then
        { r with shortfalls := saturate 65535 (r.shortfalls + r.timesShort s.shortGroups) } else r) ?_ fun r => ?_
      · simp only [State.rollupEvent, State.attribute, hb, State.continueWith_frame]
      · split <;> exact ⟨rfl, rfl, rfl, rfl, rfl⟩
    · refine hfits.same (by simp) ?_ (by simp)
      cases st with
      | verify => exact absurd rfl hverify
      | snapshot => rfl
      | figures n => simp [State.rollupEvent, State.rollupFigures]
      | rescan => simp only [State.rollupEvent, State.rollupRescan]; split <;> simp
      | write l => simp only [State.rollupEvent, State.verificationWrite]; split <;> simp
      | trigger => simp [State.rollupEvent]
  · refine hl.keep (fun hrun => ⟨by simpa using hrun, fun a ha => ?_⟩) (by simp)
      fun b g i _ _ _ hfits => hfits.same (by simp) (by simp) (by simp)
    rw [State.choose_of_job s _ ha]
    exact ha

theorem State.release_loads {s : State} (h : s.LoadInv) : s.release.LoadInv := by
  unfold State.release
  split
  · intro _ b g i hb
    cases hb
  · exact h
  · exact h

theorem step_loads {s t : State} (htime : s.TimeInv) (hbook : s.BookInv) (h : s.RecordInv) (hl : s.LoadInv)
    (hstep : step s = .next t) : t.LoadInv := by
  have hl' : State.LoadInv { s with pending := s.pending.tail } := hl
  obtain ⟨-, rfl⟩ | hrun := step_events hstep
  · exact State.release_loads hl'
  · exact And.right (hrun.keep (P := fun u => (u.TimeInv ∧ u.BookInv ∧ u.RecordInv) ∧ u.LoadInv)
      (fun _ _ ⟨⟨hu, hub, hur⟩, hul⟩ e => ⟨⟨(e.time hu).1, e.bookInv hub, e.recordInv hu hub hur⟩, e.loads hu hub hur hul⟩)
      ⟨⟨htime.queue _, hbook.queue _, h.queue _⟩, hl'⟩)

end Sys2Proof.Machine
end


section
/-! PROOFS. A request presented to a free engine (log 5): the work of its job on the state with the slot taken and the job in
progress is its work on the state before, and the row leaves what that work leaves, answered. -/

namespace Sys2Proof.Machine

/-! ### A state while a request's job is in progress -/

/-- A state in which a request's slot is taken and a job is in progress. -/
def State.serving (p : Port) (k : Nat) (tag : Byte) (q : Request) (j : Option Job) (x : Option Scratch) (s : State) : State :=
  { s.taken p k tag q with eng := { s.eng with job := j, scratch := x } }

/-- An answer whose state is `serving`. -/
def Answer.serving (p : Port) (k : Nat) (tag : Byte) (q : Request) (j : Option Job) (x : Option Scratch) (a : Answer) : Answer :=
  (a.1.serving p k tag q j x, a.2)

section
variable (p : Port) (k : Nat) (tag : Byte) (q : Request) (j : Option Job) (x : Option Scratch) (s : State)

theorem State.serving_cgr : (s.serving p k tag q j x).cgr = s.cgr := by cases p <;> rfl

theorem State.kinds_serving (g i : Nat) : (s.serving p k tag q j x).kinds g i = s.kinds g i := by cases p <;> rfl

theorem State.raise_serving (n : Notice) :
    (s.serving p k tag q j x).raise n = (s.raise n).serving p k tag q j x := by
  cases n <;> cases p <;> rfl

theorem State.raiseIf_serving (b : Bool) (n : Notice) :
    (s.serving p k tag q j x).raiseIf b n = (s.raiseIf b n).serving p k tag q j x := by
  cases b
  · rfl
  · exact s.raise_serving p k tag q j x n

theorem State.test_serving : (s.serving p k tag q j x).test = s.test :=
  funext fun e => by rw [State.test, State.test, State.kinds_serving]

theorem State.keepListed_serving (scope : List (Nat × Nat)) :
    (s.serving p k tag q j x).keepListed scope = s.keepListed scope := by
  unfold State.keepListed
  simp only [State.serving_cgr, State.kinds_serving]

theorem State.withGrid_serving (c : Grid) :
    { s.serving p k tag q j x with cgr := c } = ({ s with cgr := c } : State).serving p k tag q j x := by
  cases p <;> rfl

theorem State.rescan_serving (scope : List (Nat × Nat)) :
    (s.serving p k tag q j x).rescan scope = (s.rescan scope).serving p k tag q j x := by
  have hb : (s.serving p k tag q j x).eng.bookInterval = s.eng.bookInterval := rfl
  have ho : (s.serving p k tag q j x).cgr = s.cgr := by cases p <;> rfl
  unfold State.rescan
  rw [hb, ho]
  cases s.eng.bookInterval with
  | none => rfl
  | some b =>
    dsimp only
    split
    · simp only [State.fullScan, State.test_serving, State.serving_cgr, State.withGrid_serving, State.raiseIf_serving]
    · have hin : (s.serving p k tag q j x).eng.inHorizon = s.eng.inHorizon := rfl
      simp only [State.scopeRescan, State.test_serving, State.keepListed_serving, State.serving_cgr, State.withGrid_serving,
        State.raiseIf_serving, hin]

theorem State.dropCommitment_serving (r : Commitment) :
    (s.serving p k tag q j x).dropCommitment r = (s.dropCommitment r).serving p k tag q j x := by
  rw [State.dropCommitment, State.dropCommitment, ← State.rescan_serving]
  cases p <;> rfl

/-! ### The works of the engine's requests -/

/-- An answer chosen by a test is served as each of its branches is. -/
theorem Answer.serving_ite (c : Prop) [Decidable c] (a b : Answer) :
    Answer.serving p k tag q j x (if c then a else b)
      = if c then Answer.serving p k tag q j x a else Answer.serving p k tag q j x b :=
  apply_ite _ c a b

theorem State.deactivateProduct_serving (n : Nat) :
    (s.serving p k tag q j x).deactivateProduct n = (s.deactivateProduct n).serving p k tag q j x := by
  have h : (s.serving p k tag q j x).acu = s.acu := by cases p <;> rfl
  unfold State.deactivateProduct
  rw [h]
  cases s.acu.record n <;> cases p <;> rfl

theorem activateWork_serving (a : ActivateArgs) :
    activateWork a (s.serving p k tag q j x) = (activateWork a s).serving p k tag q j x := by
  have ho : (s.serving p k tag q j x).orderCheck a.product.toNat = s.orderCheck a.product.toNat := by cases p <;> rfl
  have ha : (s.serving p k tag q j x).acu = s.acu := by cases p <;> rfl
  have hd : (s.serving p k tag q j x).product a.product.toNat = s.product a.product.toNat := by cases p <;> rfl
  unfold activateWork
  dsimp only
  rw [ho, ha, hd, State.deactivateProduct_serving]
  cases s.orderCheck a.product.toNat with
  | some c => rfl
  | none =>
    dsimp only
    rw [Answer.serving_ite]
    cases s.acu.retarget a.product.toNat ((s.product a.product.toNat).direction.clamp a.fraction.toInt) .grid
      <;> cases p <;> rfl

theorem deactivateWork_serving (n : Byte) :
    deactivateWork n (s.serving p k tag q j x) = (deactivateWork n s).serving p k tag q j x := by
  rw [deactivateWork, deactivateWork, State.deactivateProduct_serving, Answer.serving_ite]
  rfl

theorem forecastWork_serving (a : ForecastBody) :
    forecastWork a (s.serving p k tag q j x) = (forecastWork a s).serving p k tag q j x := by
  have hc : forecastCheck a (s.serving p k tag q j x) = forecastCheck a s := by cases p <;> rfl
  unfold forecastWork
  rw [hc]
  cases forecastCheck a s with
  | some c => rfl
  | none =>
    let t : State := { s with cgr := s.cgr.writeForecasts a.group.toNat a.first.toNat a.entries }
    have hr := t.rescan_serving p k tag q j x ((List.range' a.first.toNat a.entries.length).map (fun i => (i, a.group.toNat)))
    have ht : { s.serving p k tag q j x with
        cgr := (s.serving p k tag q j x).cgr.writeForecasts a.group.toNat a.first.toNat a.entries }
        = t.serving p k tag q j x := by cases p <;> rfl
    dsimp only
    rw [ht, hr]
    simp only [State.kinds_serving, State.serving_cgr]
    rfl

theorem siteSetWork_serving (a : SiteArgs) :
    siteSetWork a (s.serving p k tag q j x) = (siteSetWork a s).serving p k tag q j x := by
  rw [siteSetWork, siteSetWork, Answer.serving_ite, Answer.serving_ite]
  cases p <;> rfl

theorem groupSetWork_serving (a : GroupArgs) :
    groupSetWork a (s.serving p k tag q j x) = (groupSetWork a s).serving p k tag q j x := by
  simp only [groupSetWork, Answer.serving_ite]
  cases p <;> rfl

theorem curveSetWork_serving (a : CurveArgs) :
    curveSetWork a (s.serving p k tag q j x) = (curveSetWork a s).serving p k tag q j x := by
  rw [curveSetWork, curveSetWork, Answer.serving_ite, Answer.serving_ite]
  cases p <;> rfl

theorem readGroupWork_serving (g : Byte) :
    readGroupWork g (s.serving p k tag q j x) = (readGroupWork g s).serving p k tag q j x := by
  simp only [readGroupWork, Answer.serving_ite]
  cases p <;> rfl

theorem productSetWork_serving (a : ProductArgs) :
    productSetWork a (s.serving p k tag q j x) = (productSetWork a s).serving p k tag q j x := by
  simp only [productSetWork, Answer.serving_ite]
  cases p <;> rfl

theorem productReadWork_serving (n : Byte) :
    productReadWork n (s.serving p k tag q j x) = (productReadWork n s).serving p k tag q j x := by
  simp only [productReadWork, Answer.serving_ite]
  cases p <;> rfl

theorem configureMarketWork_serving (a : MarketArgs) :
    configureMarketWork a (s.serving p k tag q j x) = (configureMarketWork a s).serving p k tag q j x := by
  have hc : configureMarketCheck a (s.serving p k tag q j x) = configureMarketCheck a s := by cases p <;> rfl
  unfold configureMarketWork
  rw [hc]
  cases configureMarketCheck a s with
  | some c => rfl
  | none =>
    let t : State := { s with eng := { s.eng with settings := marketSettings a } }
    have hr : (t.serving p k tag q j x).rescanAll = t.rescanAll.serving p k tag q j x :=
      t.rescan_serving p k tag q j x _
    have ht : { s.serving p k tag q j x with
        eng := { (s.serving p k tag q j x).eng with settings := marketSettings a } } = t.serving p k tag q j x := by
      cases p <;> rfl
    dsimp only
    rw [ht, hr, ← apply_ite (State.serving p k tag q j x)]
    rfl

theorem readCommitmentWork_serving (i : Half) :
    readCommitmentWork i (s.serving p k tag q j x) = (readCommitmentWork i s).serving p k tag q j x := by
  have h : (s.serving p k tag q j x).cmt = s.cmt := by cases p <;> rfl
  rw [readCommitmentWork, readCommitmentWork, h, Answer.serving_ite]
  cases s.cmt.record i.toNat <;> rfl

theorem listCommitmentsWork_serving (a : ListArgs) :
    listCommitmentsWork a (s.serving p k tag q j x) = (listCommitmentsWork a s).serving p k tag q j x := by
  simp only [listCommitmentsWork, Answer.serving_ite]
  cases p <;> rfl

theorem readDeficitsWork_serving (n : Byte) :
    readDeficitsWork n (s.serving p k tag q j x) = (readDeficitsWork n s).serving p k tag q j x := by
  simp only [readDeficitsWork, Answer.serving_ite]
  cases p <;> rfl

theorem readSettlementWork_serving :
    readSettlementWork (s.serving p k tag q j x) = (readSettlementWork s).serving p k tag q j x := by
  cases p <;> rfl

theorem awardWork_serving (a : AwardArgs) :
    awardWork a (s.serving p k tag q j x) = (awardWork a s).serving p k tag q j x := by
  have hc : (s.serving p k tag q j x).cmt = s.cmt := by cases p <;> rfl
  unfold awardWork
  rw [hc]
  cases s.cmt.named a.id.toNat a.issue with
  | none => rfl
  | some r =>
    have ha : awardCheck r (s.serving p k tag q j x) = awardCheck r s := by cases p <;> rfl
    dsimp only
    rw [ha]
    cases awardCheck r s with
    | some c => rfl
    | none =>
      have hp : (s.serving p k tag q j x).product r.product = s.product r.product := by cases p <;> rfl
      simp only [Answer.serving_ite, State.dropCommitment_serving, hp]
      let t := s.changeLoads r.first r.count r.shares (awardDrop (s.product r.product) (r.reduced a.quantity.toNat)) Quad.sub
      let u : State := { t with cmt := t.cmt.replace (r.reduced a.quantity.toNat) }
      have hu := u.rescan_serving p k tag q j x (s.sharePairs r.first r.count r.shares)
      have hv : (u.serving p k tag q j x).rescan (s.sharePairs r.first r.count r.shares)
          = State.rescan { (s.serving p k tag q j x).changeLoads r.first r.count r.shares
              (awardDrop (s.product r.product) (r.reduced a.quantity.toNat)) Quad.sub with
              cmt := ((s.serving p k tag q j x).changeLoads r.first r.count r.shares
                (awardDrop (s.product r.product) (r.reduced a.quantity.toNat)) Quad.sub).cmt.replace
                  (r.reduced a.quantity.toNat) }
            ((s.serving p k tag q j x).sharePairs r.first r.count r.shares) := by
        cases p <;> rfl
      rw [← hv, hu]
      rfl

theorem releaseWork_serving (a : ReleaseArgs) :
    releaseWork a (s.serving p k tag q j x) = (releaseWork a s).serving p k tag q j x := by
  have hc : (s.serving p k tag q j x).cmt = s.cmt := by cases p <;> rfl
  unfold releaseWork
  rw [hc]
  cases s.cmt.named a.id.toNat a.issue with
  | none => rfl
  | some r =>
    dsimp only
    simp only [State.dropCommitment_serving]
    cases r.state with
    | settling => rfl
    | held => rfl
    | awarded =>
      dsimp only
      simp only [Answer.serving_ite]
      cases p <;> rfl

/-- The work of a request's job on the state with its slot taken and its job in progress is its work on the state before. -/
theorem requestWork_serving (r : Request) :
    requestWork r (s.serving p k tag q j x) = (requestWork r s).serving p k tag q j x := by
  cases r with
  | activate a => exact activateWork_serving p k tag q j x s a
  | deactivate n => exact deactivateWork_serving p k tag q j x s n
  | forecast a => exact forecastWork_serving p k tag q j x s a
  | siteSet a => exact siteSetWork_serving p k tag q j x s a
  | groupSet a => exact groupSetWork_serving p k tag q j x s a
  | curveSet a => exact curveSetWork_serving p k tag q j x s a
  | award a => exact awardWork_serving p k tag q j x s a
  | release a => exact releaseWork_serving p k tag q j x s a
  | productSet a => exact productSetWork_serving p k tag q j x s a
  | productRead n => exact productReadWork_serving p k tag q j x s n
  | configureMarket a => exact configureMarketWork_serving p k tag q j x s a
  | readCommitment i => exact readCommitmentWork_serving p k tag q j x s i
  | listCommitments a => exact listCommitmentsWork_serving p k tag q j x s a
  | readDeficits n => exact readDeficitsWork_serving p k tag q j x s n
  | readGroup g => exact readGroupWork_serving p k tag q j x s g
  | readSettlement => exact readSettlementWork_serving p k tag q j x s
  | _ => rfl

/-! ### The commits of the ADMISSION class -/

theorem State.addLoads_serving (r : Commitment) :
    (s.serving p k tag q j x).addLoads r = (s.addLoads r).serving p k tag q j x := by
  cases p <;> rfl

theorem holdCommit_serving (a : HoldArgs) (y : Scratch) :
    holdCommit a y (s.serving p k tag q j x) = (holdCommit a y s).serving p k tag q j x := by
  have hc : (s.serving p k tag q j x).cmt = s.cmt := by cases p <;> rfl
  unfold holdCommit
  rw [hc]
  cases y.refusal with
  | some c => cases c <;> cases p <;> rfl
  | none =>
    dsimp only
    simp only [Answer.serving_ite]
    cases s.cmt.lowestEligible <;> cases p <;> rfl

theorem queryCommit_serving (a : QueryArgs) (y : Scratch) :
    queryCommit a y (s.serving p k tag q j x) = (queryCommit a y s).serving p k tag q j x := by
  unfold queryCommit
  cases y.refusal <;> cases p <;> rfl

end

end Sys2Proof.Machine
end


section
/-! PROOFS. The rows of requests: what each presentation is, what an idle engine starts for it, and how the row of a request
presented to a free engine ends. -/

namespace Sys2Proof.Machine

/-! ### Rows by their request -/

/-- The request a port presents, worked by a transfer. -/
def State.presented (s : State) (p : Port) (tag : Byte) (r : Request) : State :=
  s.transfer p (fun s => s.present p tag r)

/-- The row of a request that a block takes on acceptance is its presentation. -/
theorem exec_commandOf_accepted (s : State) (p : Port) (tag : Byte) (r : Request) (h : jobOf r = none) :
    exec (commandOf p tag r) s = .next (s.presented p tag r) := by
  cases r <;> first | exact rfl | exact absurd h (by simp [jobOf])

/-- The row of a request that the engine works is its presentation, and to a free engine the whole of its job (log 5). -/
theorem exec_commandOf_engine (s : State) (p : Port) (tag : Byte) (r : Request) (h : jobOf r ≠ none) :
    exec (commandOf p tag r) s = .next (if s.supply = .running ∧ s.eng.job = none ∧ s.eng.hasWork = false then
      (s.presented p tag r).act State.finishJob else s.presented p tag r) := by
  cases r
  case timeSet | telemetry | configureFleet | setpointChanges | readSetpoints | readStatus | readNotices | setAttention
    | armTrip | configureGrid | readActivations | readCapture | clearCapture => exact absurd rfl h
  all_goals exact rfl

/-- No block takes an engine request on acceptance. -/
theorem acceptedWork_of_engine (p : Port) (r : Request) (s : State) (h : jobOf r ≠ none) : acceptedWork p r s = none := by
  cases r
  case timeSet | telemetry | configureFleet | setpointChanges | readSetpoints | readStatus | readNotices | setAttention
    | armTrip | configureGrid | readActivations | readCapture | clearCapture => exact absurd rfl h
  all_goals exact rfl

/-! ### The start of a request's job -/

/-- The job that works an engine request. -/
def Entry.job (x : Entry) : Job :=
  match x.request with
  | .activate _ | .deactivate _ => .order ⟨x, false⟩
  | .forecast _ | .siteSet _ | .groupSet _ | .curveSet _ => .fleet ⟨x, false⟩
  | .hold _ | .queryHeadroom _ => .admission ⟨x, false⟩
  | _ => .book ⟨x, false⟩

/-- Whether an entry is of the ADMISSION class. -/
def Entry.admits (x : Entry) : Bool :=
  match x.request with
  | .hold _ | .queryHeadroom _ => true
  | _ => false

theorem Engine.hasWork_eq_false {e : Engine} (h : e.hasWork = false) : e.activation = [] ∧ e.dispatch.flag = false
    ∧ e.housekeeping.flag = false ∧ e.rollup.flag = false ∧ e.fleet = [] ∧ e.book = [] ∧ e.admission = [] := by
  simp only [Engine.hasWork, Bool.or_eq_false_iff, Bool.not_eq_eq_eq_not, Bool.not_false, List.isEmpty_iff] at h
  obtain ⟨⟨⟨⟨⟨⟨ha, hd⟩, hh⟩, hr⟩, hf⟩, hb⟩, hm⟩ := h
  exact ⟨ha, hd, hh, hr, hf, hb, hm⟩

/-- A free engine starts the request that joins its class, and no queue keeps it (R85). -/
theorem State.enqueue_choose (u : State) (x : Entry) (hj : u.eng.job = none) (hw : u.eng.hasWork = false) :
    (u.enqueue x).choose = { u with eng := { u.eng with
      job := some x.job
      scratch := if x.admits then some (admissionScratch x.request u) else u.eng.scratch } } := by
  obtain ⟨ha, hd, hh, hr, hf, hb, hm⟩ := Engine.hasWork_eq_false hw
  obtain ⟨p, k, tag, r, n⟩ := x
  cases r <;>
    simp [State.enqueue, State.joinActivation, Engine.abandoned_of_idle, State.choose, State.startNext,
      State.startAdmission, Entry.job, Entry.admits, ActEntry.job, hj, ha, hd, hh, hr, hf, hb, hm] <;> rfl

/-! ### The end of a request's job -/

/-- What an engine request's job leaves, worked on a free engine's state: an ADMISSION job commits on the scratch of its
computing phase (R88), any other does its work whole. -/
def jobAnswer (r : Request) (s : State) : Answer :=
  match r with
  | .hold a => holdCommit a (holdScratch a s) s
  | .queryHeadroom a => queryCommit a (queryScratch a s) s
  | _ => requestWork r s

/-- An answer whose job ends leaves its slot answered, whatever job and scratch it had. -/
theorem State.endRequest_serving (p : Port) (k : Nat) (tag : Byte) (r : Request) (j : Option Job) (x : Option Scratch)
    (a : Answer) : State.endRequest ⟨entryOf p k tag r, false⟩ (a.serving p k tag r j x)
      = (a.1.answered p k tag r a.2.1 a.2.2).endJob := by
  cases p <;> rfl

/-- The event of an engine request's job, whose computing phase has filled the scratch, ends it with its answer. -/
theorem State.jobEvent_serving (s : State) (p : Port) (k : Nat) (tag : Byte) (r : Request) (h : jobOf r ≠ none) :
    (s.serving p k tag r (some (entryOf p k tag r).job) (if (entryOf p k tag r).admits then
        some (admissionScratch r s) else s.eng.scratch)).jobEvent
      = ((jobAnswer r s).1.answered p k tag r (jobAnswer r s).2.1 (jobAnswer r s).2.2).endJob := by
  rw [← State.endRequest_serving p k tag r (some (entryOf p k tag r).job) (if (entryOf p k tag r).admits then
        some (admissionScratch r s) else s.eng.scratch)]
  cases r
  case timeSet | telemetry | configureFleet | setpointChanges | readSetpoints | readStatus | readNotices | setAttention
    | armTrip | configureGrid | readActivations | readCapture | clearCapture => exact absurd rfl h
  case hold a => exact congrArg (State.endRequest ⟨entryOf p k tag _, false⟩) (holdCommit_serving ..)
  case queryHeadroom a => exact congrArg (State.endRequest ⟨entryOf p k tag _, false⟩) (queryCommit_serving ..)
  all_goals exact congrArg (State.endRequest ⟨entryOf p k tag _, false⟩) (requestWork_serving ..)

/-! ### The whole row -/

theorem State.ready_iff (s : State) : s.ready = true ↔ s.supply = .running ∧ s.eng.job = none ∧ s.eng.scratch = none
    ∧ s.eng.hasWork = false := by
  simp [State.ready, and_assoc]

/-- The computing phase reads no port. -/
theorem admissionScratch_taken (s : State) (p : Port) (k : Nat) (tag : Byte) (q r : Request) :
    admissionScratch r (s.taken p k tag q) = admissionScratch r s := by
  unfold State.taken
  generalize (s.port p).takeSlot k (requestFrame tag q) = y
  cases p <;> cases r <;> rfl

/-- An engine request presented to a free engine takes its slot and its job starts (R85, R165). -/
theorem State.presented_free (s : State) (p : Port) (k : Nat) (tag : Byte) (r : Request) (hs : s.supply = .running)
    (hj : s.eng.job = none) (hw : s.eng.hasWork = false) (hk : s.freeSlot p = some k) (hr : r.presentable p = true)
    (h : jobOf r ≠ none) :
    s.presented p tag r = s.serving p k tag r (some (entryOf p k tag r).job) (if (entryOf p k tag r).admits then
        some (admissionScratch r s) else s.eng.scratch) := by
  rw [State.presented, State.transfer_running _ _ _ hs, State.present_accepted s p k tag r hk hr,
    State.accept_of_engine _ _ _ _ _ (acceptedWork_of_engine p r _ h),
    State.enqueue_choose _ _ (by rwa [State.taken_eng]) (by rwa [State.taken_eng]), State.taken_eng]
  have hx : (entryOf p k tag r).request = r := rfl
  rw [hx, admissionScratch_taken]
  rfl

theorem Entry.job_ends (x : Entry) : (∀ st, x.job ≠ .rollover st) ∧ ∀ st, x.job ≠ .rollup st := by
  obtain ⟨p, k, tag, r, n⟩ := x
  cases r <;> exact ⟨nofun, nofun⟩

/-- The row of an engine request presented to a free engine works it to its answer (log 5). -/
theorem exec_free (s : State) (p : Port) (k : Nat) (tag : Byte) (r : Request) (hready : s.ready = true)
    (hk : s.freeSlot p = some k) (hr : r.presentable p = true) (h : jobOf r ≠ none) :
    exec (commandOf p tag r) s
      = .next ((jobAnswer r s).1.answered p k tag r (jobAnswer r s).2.1 (jobAnswer r s).2.2).endJob.choose := by
  obtain ⟨hs, hj, -, hw⟩ := s.ready_iff.mp hready
  rw [exec_commandOf_engine s p tag r h, if_pos ⟨hs, hj, hw⟩, State.presented_free s p k tag r hs hj hw hk hr h,
    State.act_running _ _ (by cases p <;> exact hs),
    State.finishJob_of_single _ _ rfl (Entry.job_ends _).1 (Entry.job_ends _).2, State.jobEvent_serving s p k tag r h]

/-- An answer that leaves the classes without work leaves the engine free. -/
theorem State.ended_choose (u : State) (p : Port) (k : Nat) (tag : Byte) (r : Request) (c : Status) (b : ReplyBody)
    (h : u.eng.hasWork = false) : (u.answered p k tag r c b).endJob.choose = (u.answered p k tag r c b).endJob :=
  State.choose_of_noWork _ (by
    have he : (u.answered p k tag r c b).endJob.eng.hasWork = (u.answered p k tag r c b).eng.hasWork := rfl
    rw [he, State.answered_eng]
    exact h)

/-- The row of an engine request whose answer is `(u, c, b)` and leaves no work. -/
theorem exec_free_of_answer (s : State) (p : Port) (k : Nat) (tag : Byte) (r : Request) (hready : s.ready = true)
    (hk : s.freeSlot p = some k) (hr : r.presentable p = true) (h : jobOf r ≠ none) {u : State} {c : Status} {b : ReplyBody}
    (ha : jobAnswer r s = (u, c, b)) (hu : u.eng.hasWork = s.eng.hasWork) :
    exec (commandOf p tag r) s = .next (u.answered p k tag r c b).endJob := by
  obtain ⟨-, -, -, hw⟩ := s.ready_iff.mp hready
  rw [exec_free s p k tag r hready hk hr h, ha, State.ended_choose _ _ _ _ _ _ _ (hu.trans hw)]

/-- A refused row changes nothing but the reply. -/
theorem exec_free_of_refused (s : State) (p : Port) (k : Nat) (tag : Byte) (r : Request) (hready : s.ready = true)
    (hk : s.freeSlot p = some k) (hr : r.presentable p = true) (h : jobOf r ≠ none) {c : Status}
    (ha : jobAnswer r s = refuse s c) : exec (commandOf p tag r) s = .next (s.answered p k tag r c .empty).endJob :=
  exec_free_of_answer s p k tag r hready hk hr h ha rfl

/-! ### Requests taken on acceptance -/

/-- An answer whose request's slot is taken. -/
def Answer.taken (p : Port) (k : Nat) (tag : Byte) (q : Request) (a : Answer) : Answer := (a.1.taken p k tag q, a.2)

/-- The row of a request that a block takes on acceptance. -/
theorem exec_accepted (s : State) (p : Port) (k : Nat) (tag : Byte) (r : Request) (hs : s.supply = .running)
    (hk : s.freeSlot p = some k) (hr : r.presentable p = true) (h : jobOf r = none) {u : State} {c : Status} {b : ReplyBody}
    (ha : acceptedWork p r (s.taken p k tag r) = some (u.taken p k tag r, c, b)) :
    exec (commandOf p tag r) s = .next (u.answered p k tag r c b).choose := by
  rw [exec_commandOf_accepted s p tag r h, State.presented, State.transfer_running _ _ _ hs,
    State.present_accepted s p k tag r hk hr, State.accept_of_acceptedWork _ _ _ _ _ _ ha]
  rfl

end Sys2Proof.Machine
end


section
/-! PROOFS. The settings and the products (chapter 2). -/

namespace Sys2Proof.Machine

/-! ### CONFIGURE_MARKET (R28 to R30) -/

theorem configureMarketCheck_of_range (a : MarketArgs) (s : State)
    (h : ¬((a.length.toNat = 300 ∨ a.length.toNat = 900 ∨ a.length.toNat = 1800 ∨ a.length.toNat = 3600)
      ∧ 1 ≤ a.lead.toNat ∧ a.lead.toNat ≤ 8 ∧ a.near.toNat ≤ 3)) : configureMarketCheck a s = some .range := by
  by_cases hl : a.length.toNat ∉ [300, 900, 1800, 3600]
  · exact if_pos hl
  · refine (if_neg hl).trans ?_
    by_cases hd : a.lead.toNat = 0 ∨ a.lead.toNat > 8
    · exact if_pos hd
    · refine (if_neg hd).trans (if_pos ?_)
      change 3 < a.near.toNat
      simp only [List.mem_cons, List.not_mem_nil, or_false, not_not] at hl
      omega

theorem configureMarketCheck_of_inRange (a : MarketArgs) (s : State)
    (h : (a.length.toNat = 300 ∨ a.length.toNat = 900 ∨ a.length.toNat = 1800 ∨ a.length.toNat = 3600)
      ∧ 1 ≤ a.lead.toNat ∧ a.lead.toNat ≤ 8 ∧ a.near.toNat ≤ 3) :
    configureMarketCheck a s = if s.mtu.timeState ≠ .unset
      ∧ (a.length.toNat ≠ s.eng.settings.length ∨ a.lead.toNat ≠ s.eng.settings.lead) then some .wrongState else none := by
  obtain ⟨hlength, hlead, hlead', hnear⟩ := h
  have hl : ¬a.length.toNat ∉ [300, 900, 1800, 3600] := not_not.mpr (by simpa using hlength)
  have hd : ¬(a.lead.toNat = 0 ∨ a.lead.toNat > 8) := by omega
  exact (if_neg hl).trans ((if_neg hd).trans (if_neg (not_lt.mpr hnear)))

theorem configureMarketWork_of_refused {a : MarketArgs} {s : State} {c : Status} (h : configureMarketCheck a s = some c) :
    configureMarketWork a s = (s, c, .settings s.eng.settings) := by
  unfold configureMarketWork
  rw [h]

/-- An accepted request writes its settings, and rescans the horizon when its margin or near window is new (R30). -/
theorem configureMarketWork_of_accepted {a : MarketArgs} {s : State} (h : configureMarketCheck a s = none) :
    let t : State := { s with eng := { s.eng with settings := marketSettings a } }
    configureMarketWork a s = (if (marketSettings a).margin ≠ s.eng.settings.margin
      ∨ (marketSettings a).near ≠ s.eng.settings.near then t.rescanAll else t, .ok, .settings (marketSettings a)) := by
  unfold configureMarketWork
  rw [h]

/-- Settles O29: the checks of R28 and R29, then the settings and the rescan of R30. -/
theorem configureMarketChecksAndClamps : Obligations.ConfigureMarketChecksAndClamps := by
  intro s k tag a hready hk old new inRange frozen run ends t
  have row : ∀ {u c b}, configureMarketWork a s = (u, c, b) → u.eng.hasWork = s.eng.hasWork →
      run = .next (u.answered .market k tag (.configureMarket a) c b).endJob :=
    exec_free_of_answer s .market k tag (.configureMarket a) hready hk rfl nofun
  have check (h : inRange) := configureMarketCheck_of_inRange a s h
  refine ⟨fun h => row (configureMarketWork_of_refused (configureMarketCheck_of_range a s h)) rfl,
    fun h hf => row (configureMarketWork_of_refused ((check h).trans (if_pos hf))) rfl, fun h hf hm hn => ?_,
    fun h hf hm => ?_⟩
  · have hs : ¬((marketSettings a).margin ≠ s.eng.settings.margin ∨ (marketSettings a).near ≠ s.eng.settings.near) :=
      fun hd => hd.elim (· hm) (· hn)
    have hw := configureMarketWork_of_accepted ((check h).trans (if_neg hf))
    dsimp only at hw
    rw [if_neg hs] at hw
    exact row hw rfl
  · have hw := configureMarketWork_of_accepted ((check h).trans (if_neg hf))
    dsimp only at hw
    rw [if_pos (by exact hm)] at hw
    obtain ⟨-, -, -, -, -, heng, -⟩ := t.rescanAll_frame
    exact row hw (by rw [heng]; rfl)

/-! ### PRODUCT_SET (R22 to R24) -/

theorem State.referenced_iff (s : State) (p : Nat) : s.referenced p = true ↔
    (∃ x ∈ s.cmt.records, x.product = p ∧ (x.state = .held ∨ x.state = .awarded))
      ∨ (s.acu.record p).isSome ∨ s.acu.uft.armed = some p ∨ s.acu.oft.armed = some p := by
  simp [State.referenced, LineState.armedWith, or_assoc]

theorem directionOf_ne_none (b : Byte) : directionOf b ≠ .none ↔ 1 ≤ b.toNat ∧ b.toNat ≤ 3 := by
  unfold directionOf
  split
  · subst_vars; decide
  · split
    · subst_vars; decide
    · split
      · subst_vars; decide
      · simp only [ne_eq, not_true_eq_false, false_iff]
        bv_omega

theorem productInRange_iff (a : ProductArgs) : productInRange a = true ↔
    1 ≤ a.direction.toNat ∧ a.direction.toNat ≤ 3 ∧ 1 ≤ a.fullTicks.toNat ∧ a.fullTicks.toNat ≤ 3000
      ∧ a.verifyDelay.toNat ≤ 600 ∧ 1 ≤ a.sustain.toNat ∧ a.sustain.toNat ≤ 240 ∧ 1 ≤ a.minimum.toNat
      ∧ 1 ≤ a.step.toNat ∧ a.step.toNat ≤ a.minimum.toNat ∧ a.tolerance.toNat ≤ 500 ∧ a.enabled.toNat ≤ 1 := by
  have he : (a.enabled = 0#8 ∨ a.enabled = 1#8) ↔ a.enabled.toNat ≤ 1 := by bv_omega
  unfold productInRange
  simp only [Bool.and_eq_true, decide_eq_true_eq]
  simp only [productRecord, directionOf_ne_none, he, and_assoc]

/-- A product without records or activation that is armed on no line reports its record alone (R27). -/
theorem State.productReport_of_unreferenced (s : State) (p : Nat) (h : ¬s.referenced p = true) :
    s.productReport p = ⟨p, s.product p, 0, 0, false, false, false⟩ := by
  have hnot := mt (s.referenced_iff p).mpr h
  simp only [not_or] at hnot
  obtain ⟨hr, ha, hu, ho⟩ := hnot
  have none_of (st : CommitState) (hst : st = .held ∨ st = .awarded) : s.countOf p st = 0 := by
    simp only [State.countOf, List.length_eq_zero_iff, List.filter_eq_nil_iff, Bool.and_eq_true, beq_iff_eq]
    rintro x hx ⟨hp, rfl⟩
    exact hr ⟨x, hx, hp, hst⟩
  have hu' : s.acu.uft.armedWith p = false := by simpa [LineState.armedWith] using hu
  have ho' : s.acu.oft.armedWith p = false := by simpa [LineState.armedWith] using ho
  simp only [State.productReport, none_of _ (.inl rfl), none_of _ (.inr rfl), hu', ho', Bool.eq_false_iff.mpr ha]

/-- Settles O30: the checks of R23 in their order, then the record replaced (R24). -/
theorem productSetReplacesUnreferencedRecord : Obligations.ProductSetReplacesUnreferencedRecord := by
  intro s k tag a hready hk p referenced inRange new run ends
  have row : ∀ {u c b}, jobAnswer (.productSet a) s = (u, c, b) → u.eng.hasWork = s.eng.hasWork →
      run = .next (u.answered .market k tag (.productSet a) c b).endJob :=
    exec_free_of_answer s .market k tag (.productSet a) hready hk rfl nofun
  have href : s.referenced p = true ↔ referenced := s.referenced_iff p
  have hin : productInRange a = true ↔ inRange := productInRange_iff a
  refine ⟨fun h => row (if_pos h) rfl, fun h hf => row ?_ rfl, fun h hf hi => row ?_ rfl, fun h hf hi => row ?_ rfl⟩
  · exact (if_neg (by omega)).trans (if_pos (href.mpr hf))
  · refine (if_neg (by omega)).trans ((if_neg (mt href.mp hf)).trans (if_pos ?_))
    simpa using mt hin.mp hi
  · have hnew : productRecord a = new := by
      have : 1 ≤ a.direction.toNat ∧ a.direction.toNat ≤ 3 := ⟨hi.1, hi.2.1⟩
      have hd : directionOf a.direction = new.direction := by
        simp only [directionOf, new]
        split
        · rfl
        · split
          · rfl
          · rw [if_pos (by bv_omega)]
      simp only [productRecord, hd, new]
    let t : State := { s with cmt := { s.cmt with products := Table.set {} s.cmt.products p new } }
    have ht : ¬t.referenced p = true := mt href.mp hf
    have hreport : t.productReport p = ⟨p, new, 0, 0, false, false, false⟩ := by
      rw [t.productReport_of_unreferenced p ht, State.product, Table.get_set_self]
    refine (if_neg (by omega)).trans ((if_neg (mt href.mp hf)).trans ((if_neg (by simpa using hin.mpr hi)).trans ?_))
    rw [hnew]
    exact congrArg (fun x => (t, Status.ok, ReplyBody.product x)) hreport

end Sys2Proof.Machine
end


section
/-! PROOFS. The readings of the Book and the registry, each formed in its job (2.4, 3.8, 5.6, 7.4). -/

namespace Sys2Proof.Machine

/-- A request of the market and grid ports is presentable on both. -/
theorem presentable_of_market_grid {p : Port} (r : Request) (h : p ≠ .fleet) (hm : r.presentable .market = true)
    (hg : r.presentable .grid = true) : r.presentable p = true := by
  cases p with
  | market => exact hm
  | grid => exact hg
  | fleet => exact absurd rfl h

theorem State.countOf_eq (s : State) (p : Nat) (st : CommitState) :
    s.countOf p st = (s.cmt.records.filter (fun x => decide (x.product = p ∧ x.state = st))).length := by
  unfold State.countOf
  congr 1
  refine List.filter_congr fun x _ => Bool.eq_iff_iff.mpr ?_
  simp

theorem State.productReport_eq (s : State) (n : Nat) : s.productReport n =
    ⟨n, s.product n, (s.cmt.records.filter (fun x => decide (x.product = n ∧ x.state = .held))).length,
      (s.cmt.records.filter (fun x => decide (x.product = n ∧ x.state = .awarded))).length, (s.acu.record n).isSome,
      decide (s.acu.uft.armed = some n), decide (s.acu.oft.armed = some n)⟩ := by
  have armed (x : LineState) : x.armedWith n = decide (x.armed = some n) := Bool.eq_iff_iff.mpr (by simp [LineState.armedWith])
  simp only [State.productReport, State.countOf_eq, armed]

/-- The filter byte of LIST_COMMITMENTS: 0 matches every state, a state's code that state (R102). -/
theorem filter_matches (f : Byte) (st : CommitState) : (f == 0#8 || f == st.code) = decide (f.toNat = 0 ∨ f.toNat =
    match st with
    | .held => 1
    | .awarded => 2
    | .settling => 3) := by
  refine Bool.eq_iff_iff.mpr ?_
  cases st <;> simp only [CommitState.code, Bool.or_eq_true, beq_iff_eq, decide_eq_true_eq] <;> bv_omega

/-- LIST_COMMITMENTS's records: those of the filter from the start id upward. -/
def Commitments.listed (c : Commitments) (a : ListArgs) : List Commitment :=
  c.records.filter (fun r => decide (a.start.toNat ≤ r.id) && (a.filter == 0#8 || a.filter == r.state.code))

theorem Commitments.listed_eq (c : Commitments) (a : ListArgs) :
    c.listed a = c.records.filter (fun x => decide (a.start.toNat ≤ x.id ∧ (a.filter.toNat = 0 ∨ a.filter.toNat =
      match x.state with
      | .held => 1
      | .awarded => 2
      | .settling => 3))) :=
  List.filter_congr fun x _ => by rw [filter_matches, Bool.decide_and]

theorem listCommitmentsWork_of_inRange (a : ListArgs) (s : State) (h : ¬(a.filter.toNat > 3 ∨ a.start.toNat > 511)) :
    listCommitmentsWork a s = (s, .ok, .list ((s.cmt.listed a).take 32) (if (s.cmt.listed a).length > 32 then
      (((s.cmt.listed a).take 32).getLast?.map (·.id + 1)).getD 512 else 512)) :=
  if_neg h

/-- The last of the first 32 records is the 32nd. -/
theorem getLast?_take_of_lt {α : Type} {l : List α} {x : α} {n : Nat} (h : l[n]? = some x) : (l.take (n + 1)).getLast? = some x := by
  have hn := (List.getElem?_eq_some_iff.mp h).1
  rw [List.getLast?_eq_getElem?, List.length_take_of_le (by omega), List.getElem?_take_of_lt (by omega)]
  exact h

/-- Settles O31: each reading refuses or reports, by its job's own definition. -/
theorem bookReadingsReport : Obligations.BookReadingsReport := by
  intro s p k tag hready hk ends
  have row (r : Request) (hr : r.presentable p = true) (h : jobOf r ≠ none) {c b} (ha : jobAnswer r s = (s, c, b)) :
      exec (commandOf p tag r) s = ends r c b := exec_free_of_answer s p k tag r hready hk hr h ha rfl
  refine ⟨fun hp => ⟨fun product => ?_, fun id => ?_, fun a => ?_, fun start => ?_⟩, fun hp group => ?_⟩
  · have row {c b} := row (.productRead product) (presentable_of_market_grid _ hp rfl rfl) nofun (c := c) (b := b)
    refine ⟨fun h => row (if_pos h), fun h => row ?_⟩
    refine (if_neg (not_lt.mpr h)).trans ?_
    rw [State.productReport_eq]
  · have row {c b} := row (.readCommitment id) (presentable_of_market_grid _ hp rfl rfl) nofun (c := c) (b := b)
    refine ⟨fun h => row (if_pos h), fun h hn => row ?_, fun x h hx => row ?_⟩
    · refine (if_neg (not_lt.mpr h)).trans ?_
      rw [hn]
      rfl
    · refine (if_neg (not_lt.mpr h)).trans ?_
      rw [hx]
  · have row {c b} := row (.listCommitments a) (presentable_of_market_grid _ hp rfl rfl) nofun (c := c) (b := b)
    intro run found
    have hfound : s.cmt.listed a = found := s.cmt.listed_eq a
    refine ⟨fun h => row (if_pos h), fun h h' hn => row ?_, fun x h h' hn hx => row ?_⟩
    · refine (listCommitmentsWork_of_inRange a s (by omega)).trans ?_
      rw [hfound, if_neg (not_lt.mpr hn), List.take_of_length_le hn]
    · refine (listCommitmentsWork_of_inRange a s (by omega)).trans ?_
      rw [hfound, if_pos hn, getLast?_take_of_lt hx]
      rfl
  · have row {c b} := row (.readDeficits start) (presentable_of_market_grid _ hp rfl rfl) nofun (c := c) (b := b)
    exact ⟨fun h => row (if_pos h), fun h => row (if_neg (not_lt.mpr h))⟩
  · have hr : (Request.readGroup group).presentable p = true := by
      cases p with
      | market => exact absurd rfl hp
      | grid | fleet => rfl
    have row {c b} := row (.readGroup group) hr nofun (c := c) (b := b)
    refine ⟨fun h => row (if_pos h), fun h => row ((if_neg (not_lt.mpr h)).trans ?_)⟩
    have hassigned : s.frg.assigned group.toNat
        = (s.frg.sites.filter (fun e => decide (e.2.group = some group.toNat))).length := by
      unfold Registry.assigned
      congr 1
      exact List.filter_congr fun e _ => Bool.eq_iff_iff.mpr (by simp)
    rw [hassigned]

end Sys2Proof.Machine
end


section
/-! PROOFS. The `job` form of a row (log 5), and the refusals and the commit of a HOLD (8.1 to 8.4). -/

namespace Sys2Proof.Machine

/-! ### The `job` form -/

/-- The `job` form of a request's row works the job in progress if it is one of the row's kind. -/
theorem exec_jobOf {q : Request} {c : Instr} (s : State) (h : jobOf q = some c) :
    exec c s = .next (s.act (fun s => if s.eng.works (requestCode q) then s.finishJob else s)) := by
  cases q
  case timeSet | telemetry | configureFleet | setpointChanges | readSetpoints | readStatus | readNotices | setAttention
    | armTrip | configureGrid | readActivations | readCapture | clearCapture => exact absurd h nofun
  all_goals cases h; exact rfl

/-- The running request of a request's job, if the job is one. -/
def Job.running? : Job → Option Running
  | .order r | .fleet r | .book r | .admission r => some r
  | _ => none

theorem Engine.works_eq (e : Engine) (kind : Byte) :
    e.works kind = (e.job.bind Job.running?).any (fun r => requestCode r.entry.request == kind) := by
  unfold Engine.works
  cases e.job with
  | none => rfl
  | some j => cases j <;> rfl

theorem exec_job_of_works {s : State} {r : Running} {c : Instr} {j : Job} (hs : s.supply = .running)
    (h : jobOf r.entry.request = some c) (hj : s.eng.job = some j) (hr : j.running? = some r) :
    exec c s = .next s.jobEvent.choose := by
  have hw : s.eng.works (requestCode r.entry.request) = true := by simp [Engine.works_eq, hj, hr]
  have hends : (∀ st, j ≠ .rollover st) ∧ ∀ st, j ≠ .rollup st := by
    constructor <;> rintro st rfl <;> cases hr
  rw [exec_jobOf s h, State.act_running _ _ hs, if_pos hw, State.finishJob_of_single s j hj hends.1 hends.2]

theorem exec_job_of_idle {s : State} {q : Request} {c : Instr} (hs : s.supply = .running) (h : jobOf q = some c)
    (hw : s.eng.works (requestCode q) = false) : exec c s = .next s.choose := by
  rw [exec_jobOf s h, State.act_running _ _ hs, hw]
  rfl

/-- A request's job ends with its answer, which an orphan discards (R87, R92). -/
theorem State.endRequest_eq (r : Running) (a : Answer) : State.endRequest r a = (if r.orphan then a.1
    else a.1.complete r.entry.port ⟨r.entry.slot, requestCode r.entry.request, r.entry.tag, a.2.1, a.2.2⟩).endJob := by
  unfold State.endRequest
  split <;> rfl

/-- Settles O25: a job of the row's kind is the one in progress, or there is none. -/
theorem jobFormEndsJobInProgress : Obligations.JobFormEndsJobInProgress := by
  intro s r c hs h left
  have whole {j : Job} (hj : s.eng.job = some j) (hr : j.running? = some r) {a : Answer}
      (he : s.jobEvent = State.endRequest r a) : exec c s = .next (left a).endJob.choose := by
    rw [exec_job_of_works hs h hj hr, he, State.endRequest_eq]
  refine ⟨?_, fun hj => whole hj rfl ?_, fun hother => exec_job_of_idle hs h ?_, fun hj => exec_job_of_idle hs h ?_,
    fun u => rfl⟩
  · rintro (hj | hj | hj) <;> exact whole hj rfl (by simp only [State.jobEvent, hj])
  · simp only [State.jobEvent, hj]
  · cases hj : s.eng.job with
    | none => simp [Engine.works_eq, hj]
    | some j =>
      cases hr : j.running? with
      | none => simp [Engine.works_eq, hj, hr]
      | some x =>
        have hne : requestCode x.entry.request ≠ requestCode r.entry.request := by
          refine hother x ?_
          cases j <;> cases hr <;> simp [hj]
        simp [Engine.works_eq, hj, hr, hne]
  · simp [Engine.works_eq, hj]

/-! ### A HOLD's checks in their order (R113) -/

theorem Commitments.eligible_iff (c : Commitments) (i : Nat) : c.eligible i = true ↔
    c.record i = none ∧ ∀ x ∈ c.queue, x.id = i → x.issue ≠ c.issue i := by
  simp [Commitments.eligible]

theorem Commitments.lowestEligible_eq_none (c : Commitments) : c.lowestEligible = none ↔
    ¬∃ i, i < 512 ∧ c.record i = none ∧ ∀ x ∈ c.queue, x.id = i → x.issue ≠ c.issue i := by
  unfold Commitments.lowestEligible
  rw [List.find?_range_eq_none]
  simp only [Bool.not_eq_true', Config.numIds, ← c.eligible_iff, not_exists, not_and, Bool.not_eq_true]

theorem Commitments.lowestEligible_eq_some (c : Commitments) {i : Nat} (hi : i < 512)
    (h : c.record i = none ∧ ∀ x ∈ c.queue, x.id = i → x.issue ≠ c.issue i)
    (hlow : ∀ j, j < i → ¬(c.record j = none ∧ ∀ x ∈ c.queue, x.id = j → x.issue ≠ c.issue j)) :
    c.lowestEligible = some i := by
  unfold Commitments.lowestEligible
  rw [List.find?_range_eq_some]
  refine ⟨(c.eligible_iff i).mpr h, List.mem_range.mpr hi, fun j hj => ?_⟩
  simpa using mt (c.eligible_iff j).mp (hlow j hj)

theorem Mtu.commerce_iff (m : Mtu) : m.commerce = true ↔ m.timeState = .locked ∨ m.timeState = .holdover := by
  simp [Mtu.commerce]

/-- The first four checks of a HOLD passed. -/
structure HoldOpens (a : HoldArgs) (s : State) : Prop where
  commerce : s.mtu.timeState = .locked ∨ s.mtu.timeState = .holdover
  product : a.product.toNat ≤ 7
  enabled : (s.product a.product.toNat).enabled = true
  range : 1 ≤ a.count.toNat ∧ a.count.toNat ≤ 16 ∧ a.zone.toNat ≤ 15
    ∧ (s.product a.product.toNat).minimum ≤ a.quantity.toNat ∧ a.quantity.toNat % (s.product a.product.toNat).step = 0

theorem holdCheck_of_commerce {a : HoldArgs} {s : State} (h : ¬(s.mtu.timeState = .locked ∨ s.mtu.timeState = .holdover)) :
    holdCheck a s = some .wrongState :=
  if_pos (by simpa using mt s.mtu.commerce_iff.mp h)

theorem holdCheck_of_product {a : HoldArgs} {s : State} (h : s.mtu.timeState = .locked ∨ s.mtu.timeState = .holdover)
    (hp : ¬a.product.toNat ≤ 7) : holdCheck a s = some .range :=
  (if_neg (by simpa using s.mtu.commerce_iff.mpr h)).trans (if_pos (by omega))

theorem holdCheck_of_disabled {a : HoldArgs} {s : State} (h : s.mtu.timeState = .locked ∨ s.mtu.timeState = .holdover)
    (hp : a.product.toNat ≤ 7) (he : ¬(s.product a.product.toNat).enabled = true) : holdCheck a s = some .disabled :=
  (if_neg (by simpa using s.mtu.commerce_iff.mpr h)).trans ((if_neg (by omega)).trans (if_pos (by simpa using he)))

/-- The checks from the fourth on (R113). -/
theorem holdCheck_of_enabled {a : HoldArgs} {s : State} (h : s.mtu.timeState = .locked ∨ s.mtu.timeState = .holdover)
    (hp : a.product.toNat ≤ 7) (he : (s.product a.product.toNat).enabled = true) : holdCheck a s =
      if a.count.toNat = 0 ∨ a.count.toNat > 16 ∨ a.zone.toNat > 15
        ∨ a.quantity.toNat < (s.product a.product.toNat).minimum
        ∨ a.quantity.toNat % (s.product a.product.toNat).step ≠ 0 then some .range
      else if a.first.toNat ≤ s.mtu.clock + s.eng.settings.lead then some .gateClosed
      else match s.eng.bookInterval with
        | none => some .range
        | some b =>
          if a.first.toNat + a.count.toNat - 1 > b + 95 then some .range
          else if s.cmt.lowestEligible.isNone then some .tableFull
          else none :=
  (if_neg (by simpa using s.mtu.commerce_iff.mpr h)).trans ((if_neg (by omega)).trans (if_neg (by simpa using he)))

theorem holdCheck_of_args {a : HoldArgs} {s : State} (h : s.mtu.timeState = .locked ∨ s.mtu.timeState = .holdover)
    (hp : a.product.toNat ≤ 7) (he : (s.product a.product.toNat).enabled = true)
    (hr : ¬(1 ≤ a.count.toNat ∧ a.count.toNat ≤ 16 ∧ a.zone.toNat ≤ 15
      ∧ (s.product a.product.toNat).minimum ≤ a.quantity.toNat
      ∧ a.quantity.toNat % (s.product a.product.toNat).step = 0)) : holdCheck a s = some .range :=
  (holdCheck_of_enabled h hp he).trans (if_pos (by omega))

/-- The checks from the gate on. -/
theorem HoldOpens.check {a : HoldArgs} {s : State} (h : HoldOpens a s) : holdCheck a s =
    if a.first.toNat ≤ s.mtu.clock + s.eng.settings.lead then some .gateClosed
    else match s.eng.bookInterval with
      | none => some .range
      | some b =>
        if a.first.toNat + a.count.toNat - 1 > b + 95 then some .range
        else if s.cmt.lowestEligible.isNone then some .tableFull
        else none := by
  obtain ⟨hlow, hhigh, hzone, hmin, hstep⟩ := h.range
  exact (holdCheck_of_enabled h.commerce h.product h.enabled).trans (if_neg (by omega))

theorem HoldOpens.check_of_horizon {a : HoldArgs} {s : State} (h : HoldOpens a s)
    (hg : s.mtu.clock + s.eng.settings.lead < a.first.toNat)
    (hr : ¬∃ b, s.eng.bookInterval = some b ∧ a.first.toNat + a.count.toNat - 1 ≤ b + 95) :
    holdCheck a s = some .range := by
  refine h.check.trans ((if_neg (not_le.mpr hg)).trans ?_)
  cases hb : s.eng.bookInterval with
  | none => rfl
  | some b => exact if_pos (not_le.mp fun hle => hr ⟨b, hb, hle⟩)

theorem HoldOpens.check_of_inHorizon {a : HoldArgs} {s : State} (h : HoldOpens a s)
    (hg : s.mtu.clock + s.eng.settings.lead < a.first.toNat)
    (hr : ∃ b, s.eng.bookInterval = some b ∧ a.first.toNat + a.count.toNat - 1 ≤ b + 95) :
    holdCheck a s = if s.cmt.lowestEligible.isNone then some .tableFull else none := by
  obtain ⟨b, hb, hle⟩ := hr
  refine h.check.trans ((if_neg (not_le.mpr hg)).trans ?_)
  rw [hb]
  exact if_neg (not_lt.mpr hle)

/-! ### A HOLD's answer (8.4) -/

theorem holdCommit_of_refused {a : HoldArgs} {x : Scratch} {s : State} {c : Status} (h : x.refusal = some c)
    (hc : c ≠ .short) : holdCommit a x s = refuse s c := by
  unfold holdCommit
  rw [h]
  cases c with
  | short => exact absurd rfl hc
  | _ => rfl

/-- The figures of SHORT (R118). -/
theorem holdCommit_of_short {a : HoldArgs} {x : Scratch} {s : State} (h : x.refusal = some .short) :
    holdCommit a x s = (s, .short, .short (totalHeadroom x.selected)
      (offerable (s.product a.product.toNat) (totalHeadroom x.selected)) (eligibleGroups x.considered).length) := by
  unfold holdCommit
  rw [h]

theorem holdCommit_of_commerce {a : HoldArgs} {x : Scratch} {s : State} (h : x.refusal = none)
    (hc : ¬(s.mtu.timeState = .locked ∨ s.mtu.timeState = .holdover)) : holdCommit a x s = refuse s .wrongState := by
  unfold holdCommit
  rw [h]
  exact if_pos (by simpa using mt s.mtu.commerce_iff.mp hc)

theorem holdCommit_of_gate {a : HoldArgs} {x : Scratch} {s : State} (h : x.refusal = none)
    (hc : s.mtu.timeState = .locked ∨ s.mtu.timeState = .holdover) (hg : a.first.toNat ≤ s.mtu.clock + s.eng.settings.lead) :
    holdCommit a x s = refuse s .gateClosed := by
  unfold holdCommit
  rw [h]
  exact (if_neg (by simpa using s.mtu.commerce_iff.mpr hc)).trans (if_pos hg)

/-- The commit of shares found: the record at the lowest eligible id, and its loads (R120, R121). -/
theorem holdCommit_of_accepted {a : HoldArgs} {x : Scratch} {s : State} {id : Nat} (h : x.refusal = none)
    (hc : s.mtu.timeState = .locked ∨ s.mtu.timeState = .holdover)
    (hg : s.mtu.clock + s.eng.settings.lead < a.first.toNat) (hid : s.cmt.lowestEligible = some id) :
    holdCommit a x s = (({ s with cmt := s.cmt.place (heldRecord a id (s.cmt.issue id) x.shares) }).addLoads
        (heldRecord a id (s.cmt.issue id) x.shares), .ok, .shares id (s.cmt.issue id) a.quantity.toNat x.shares) := by
  unfold holdCommit
  rw [h]
  refine (if_neg (by simpa using s.mtu.commerce_iff.mpr hc)).trans ((if_neg (not_le.mpr hg)).trans ?_)
  rw [hid]
  rfl

/-- A HOLD's job in progress ends with its commit on the scratch of its computing phase. -/
theorem exec_hold_job {s : State} {r : Running} {a : HoldArgs} {x : Scratch} (hs : s.supply = .running)
    (hj : s.eng.job = some (.admission r)) (hr : r.entry.request = .hold a) (hx : s.eng.scratch = some x) {u : State}
    {c : Status} {b : ReplyBody} (ha : holdCommit a x s = (u, c, b)) :
    exec (.hold .job) s = .next (State.choose (State.endJob (if r.orphan then u
      else u.complete r.entry.port ⟨r.entry.slot, 0x04#8, r.entry.tag, c, b⟩))) := by
  have hjob : jobOf r.entry.request = some (.hold .job) := by rw [hr]; rfl
  have hwork : admissionWork r.entry.request s = (u, c, b) := by
    rw [hr, ← ha]
    simp only [admissionWork, hx]
  have hcode : requestCode r.entry.request = 0x04#8 := by rw [hr]; rfl
  rw [exec_job_of_works hs hjob hj rfl]
  simp only [State.jobEvent, hj, State.endRequest_eq, hwork, hcode]

/-- The groups counted in a SHORT or a headroom report. -/
theorem offerable_eq (p : Product) (t : Nat) :
    offerable p t = if t / p.step * p.step < p.minimum then 0 else t / p.step * p.step := rfl

/-- Settles O32: each check's refusal is the job's answer. -/
theorem holdRefusesInOrder : Obligations.HoldRefusesInOrder := by
  refine ⟨?_, ?_⟩
  · intro s r a x hs hj hr hx pr total sold commerce refused
    have row {c b} (ha : holdCommit a x s = (s, c, b)) : refused c b := exec_hold_job hs hj hr hx ha
    exact ⟨fun c hc hne => row (holdCommit_of_refused hc hne), fun hc => row (holdCommit_of_short hc),
      fun hc hn => row (holdCommit_of_commerce hc hn), fun hc hn hg => row (holdCommit_of_gate hc hn hg)⟩
  · intro s k tag a hready hk pr q first count considered total sold c1 c2 c3 c4 c5 c6 c7 refused
    have row {c : Status} {b : ReplyBody} (ha : holdCommit a (holdScratch a s) s = (s, c, b)) :
        exec (.hold (.request .market tag a)) s = .next (s.answered .market k tag (.hold a) c b).endJob :=
      exec_free_of_answer s .market k tag (.hold a) hready hk rfl nofun ha rfl
    have refusal {c : Status} (hne : c ≠ .short) (h : holdCheck a s = some c) : refused c := by
      refine row (holdCommit_of_refused ?_ hne)
      rw [holdScratch_of_refused h]
      rfl
    refine ⟨fun h => refusal nofun (holdCheck_of_commerce h), fun h1 h => refusal nofun (holdCheck_of_product h1 h),
      fun h1 h2 h => refusal nofun (holdCheck_of_disabled h1 h2 h),
      fun h1 h2 h3 h => refusal nofun (holdCheck_of_args h1 h2 h3 h),
      fun h1 h2 h3 h4 h => refusal nofun ((HoldOpens.check ⟨h1, h2, h3, h4⟩).trans (if_pos (not_lt.mp h))),
      fun h1 h2 h3 h4 h5 h => refusal nofun (HoldOpens.check_of_horizon ⟨h1, h2, h3, h4⟩ h5 h),
      fun h1 h2 h3 h4 h5 h6 h => refusal nofun ((HoldOpens.check_of_inHorizon ⟨h1, h2, h3, h4⟩ h5 h6).trans (if_pos ?_)),
      fun h1 h2 h3 h4 h5 h6 h7 h => ?_⟩
    · rw [Option.isNone_iff_eq_none, s.cmt.lowestEligible_eq_none]
      exact h
    · have hcheck : holdCheck a s = none := by
        refine (HoldOpens.check_of_inHorizon ⟨h1, h2, h3, h4⟩ h5 h6).trans (if_neg ?_)
        rw [Option.isNone_iff_eq_none, s.cmt.lowestEligible_eq_none]
        exact not_not.mpr h7
      have hscratch := holdScratch_of_passed hcheck
      rw [if_pos (by exact h)] at hscratch
      refine (row (holdCommit_of_short (by rw [hscratch]))).trans ?_
      rw [hscratch]
      rfl

/-- Settles O33: the commit on the scratch that the computing phase filled, in a job's end and in a row worked whole. -/
theorem holdCommitsHeldRecord : Obligations.HoldCommitsHeldRecord := by
  refine ⟨?_, ?_⟩
  · intro s r a x id hs hj hr hx hnone eligible hc hg hid he hlow n u
    exact exec_hold_job hs hj hr hx
      (holdCommit_of_accepted hnone hc hg (s.cmt.lowestEligible_eq_some hid he hlow))
  · intro s k tag a b id hready hk pr q chosen eligible hc hp hen hlow hhigh hz hm hst hg hb hrange hid he hleast htotal r
    have hfree : s.cmt.lowestEligible = some id := s.cmt.lowestEligible_eq_some hid he hleast
    have hcheck : holdCheck a s = none := by
      refine (HoldOpens.check_of_inHorizon ⟨hc, hp, hen, hlow, hhigh, hz, hm, hst⟩ hg ⟨b, hb, hrange⟩).trans ?_
      rw [hfree]
      rfl
    have hscratch := holdScratch_of_passed hcheck
    have hfound : ¬totalHeadroom (holdSelected a s) < a.quantity.toNat := not_lt.mpr htotal
    rw [if_neg hfound, if_neg hfound] at hscratch
    have hcommit := holdCommit_of_accepted (x := holdScratch a s) (by rw [hscratch]) hc hg hfree
    have hshares : (holdScratch a s).shares = r.shares := by rw [hscratch]; rfl
    rw [hshares] at hcommit
    exact exec_free_of_answer s .market k tag (.hold a) hready hk rfl nofun hcommit rfl

end Sys2Proof.Machine
end


section
/-! PROOFS. QUERY_HEADROOM, RELEASE and AWARD (7.3, 8.5, 8.6). -/

namespace Sys2Proof.Machine

/-! ### QUERY_HEADROOM (R123, R124) -/

/-- QUERY_HEADROOM's arguments of an admissible shape (R123). -/
structure QueryOpens (a : QueryArgs) (s : State) : Prop where
  product : a.product.toNat ≤ 7
  defined : (s.product a.product.toNat).direction ≠ .none
  range : 1 ≤ a.count.toNat ∧ a.count.toNat ≤ 16 ∧ a.zone.toNat ≤ 15

theorem queryCheck_of_undefined {a : QueryArgs} {s : State} (hp : a.product.toNat ≤ 7)
    (hd : ¬(s.product a.product.toNat).direction ≠ .none) : queryCheck a s = some .disabled :=
  (if_neg (by omega)).trans (if_pos (not_not.mp hd))

theorem queryCheck_of_args {a : QueryArgs} {s : State} (hp : a.product.toNat ≤ 7)
    (hd : (s.product a.product.toNat).direction ≠ .none)
    (hr : ¬(1 ≤ a.count.toNat ∧ a.count.toNat ≤ 16 ∧ a.zone.toNat ≤ 15)) : queryCheck a s = some .range :=
  (if_neg (by omega)).trans ((if_neg hd).trans (if_pos (by omega)))

theorem QueryOpens.check {a : QueryArgs} {s : State} (h : QueryOpens a s) : queryCheck a s =
    match s.eng.bookInterval with
    | none => some .range
    | some b => if a.first.toNat < b ∨ a.first.toNat + a.count.toNat - 1 > b + 95 then some .range else none := by
  obtain ⟨hp, hd, hlow, hhigh, hz⟩ := h
  exact (if_neg (by omega)).trans ((if_neg hd).trans (if_neg (by omega)))

theorem queryCommit_of_refused {a : QueryArgs} {s : State} {c : Status} (h : queryCheck a s = some c) :
    queryCommit a (queryScratch a s) s = refuse s c := by
  have hx : queryScratch a s = s.refusedScratch c (s.gateStatus a.first.toNat) := by simp only [queryScratch, h]
  rw [hx]
  rfl

/-- The figures of a query that passes (R124). -/
theorem queryCommit_of_passed {a : QueryArgs} {s : State} (h : queryCheck a s = none) :
    let pr := s.product a.product.toNat
    let considered := s.consider a.zone.toNat pr a.first.toNat a.count.toNat
    let total := totalHeadroom (selectGroups considered)
    queryCommit a (queryScratch a s) s = (s, .ok, .headroom s.mtu.clock (s.eng.bookInterval.getD 0)
      (s.gateStatus a.first.toNat) considered.length (eligibleGroups considered).length (selectGroups considered) total
      (offerable pr (min total 65535))) := by
  simp only [queryCommit, queryScratch, h]
  rfl

/-- Gate status of an interval no later than the last of the horizon (R14). -/
theorem State.gateStatus_of_le {s : State} {b i : Nat} (hb : s.eng.bookInterval = some b) (hi : i ≤ b + 95) :
    s.gateStatus i = if i < s.mtu.clock then .past else if i = s.mtu.clock then .delivery
      else if i ≤ s.mtu.clock + s.eng.settings.lead then .closed else .open := by
  unfold State.gateStatus
  rw [hb]
  dsimp only
  rw [if_pos hi]

/-- Settles O34: the checks of R123, then the figures of R124. -/
theorem queryHeadroomReports : Obligations.QueryHeadroomReports := by
  intro s k tag a hready hk pr first count considered chosen total sold c1 c2 c3 ends
  have row {c : Status} {b : ReplyBody} (ha : queryCommit a (queryScratch a s) s = (s, c, b)) : ends c b :=
    exec_free_of_answer s .market k tag (.queryHeadroom a) hready hk rfl nofun ha rfl
  refine ⟨fun h => row (queryCommit_of_refused (if_pos (not_le.mp h))),
    fun h1 h => row (queryCommit_of_refused (queryCheck_of_undefined h1 h)),
    fun h1 h2 h => row (queryCommit_of_refused (queryCheck_of_args h1 h2 h)),
    fun h1 h2 h3 hb => row (queryCommit_of_refused ((QueryOpens.check ⟨h1, h2, h3⟩).trans ?_)),
    fun b h1 h2 h3 hb => ⟨fun h => row (queryCommit_of_refused ((QueryOpens.check ⟨h1, h2, h3⟩).trans ?_)),
      fun hlow hhigh => row ?_⟩⟩
  · rw [hb]
  · rw [hb]
    exact if_pos h
  · have hcheck : queryCheck a s = none := by
      refine (QueryOpens.check ⟨h1, h2, h3⟩).trans ?_
      rw [hb]
      exact if_neg (not_or.mpr ⟨not_lt.mpr hlow, not_lt.mpr hhigh⟩)
    have hlast : a.first.toNat ≤ b + 95 := (show a.first.toNat ≤ a.first.toNat + a.count.toNat - 1 by
      have := h3.1
      omega).trans hhigh
    have hreport := queryCommit_of_passed hcheck
    rw [hb, State.gateStatus_of_le hb hlast] at hreport
    exact hreport

/-! ### RELEASE (R99) -/

theorem Commitments.named_eq_none {c : Commitments} {i : Nat} {issue : Byte}
    (h : 511 < i ∨ c.record i = none ∨ ∃ x, c.record i = some x ∧ x.issue ≠ issue) : c.named i issue = none := by
  unfold Commitments.named
  split
  · rfl
  · obtain h | h | ⟨x, hx, hne⟩ := h
    · omega
    · rw [h]
    · rw [hx]
      exact if_neg hne

theorem Commitments.named_of_record {c : Commitments} {i : Nat} {issue : Byte} {x : Commitment} (hi : i ≤ 511)
    (hx : c.record i = some x) (h : x.issue = issue) : c.named i issue = some x := by
  refine (if_neg (by omega)).trans ?_
  rw [hx]
  exact if_pos h

/-- The gate is open exactly above the lead and within the horizon (R14). -/
theorem State.gateStatus_open_iff (s : State) (i : Nat) : s.gateStatus i = .open ↔
    s.mtu.clock + s.eng.settings.lead < i ∧ ∃ b, s.eng.bookInterval = some b ∧ i ≤ b + 95 := by
  constructor
  · intro h
    obtain ⟨b, hb, hlead, hhigh⟩ := s.gateStatus_eq_open h
    exact ⟨hlead, b, hb, hhigh⟩
  · rintro ⟨hlead, b, hb, hhigh⟩
    rw [State.gateStatus_of_le hb hhigh, if_neg (by omega), if_neg (by omega), if_neg (by omega)]

theorem releaseWork_of_unnamed {a : ReleaseArgs} {s : State} (h : s.cmt.named a.id.toNat a.issue = none) :
    releaseWork a s = refuse s .unknown := by
  unfold releaseWork
  rw [h]

/-- RELEASE of the record it names (R99). -/
theorem releaseWork_of_named {a : ReleaseArgs} {s : State} {r : Commitment}
    (h : s.cmt.named a.id.toNat a.issue = some r) : releaseWork a s = match r.state with
      | .settling => refuse s .wrongState
      | .held => (s.dropCommitment r, .ok, .released r.id r.issue r.state)
      | .awarded =>
        if !s.mtu.commerce then refuse s .wrongState
        else if s.gateStatus r.first ≠ .open then refuse s .gateClosed
        else (s.dropCommitment r, .ok, .released r.id r.issue r.state) := by
  unfold releaseWork
  rw [h] <;> rfl

/-- Dropping a record leaves the engine as it is. -/
theorem State.dropCommitment_eng (s : State) (r : Commitment) : (s.dropCommitment r).eng = s.eng := by
  simp only [State.dropCommitment_frame]

/-- A change of a record's loads by its shares' figures, entry by entry of the horizon (R67, R128). -/
theorem State.changeLoads_share {s : State} {r : Commitment} {b g i : Nat} (hb : s.eng.bookInterval = some b) (hg : g < 64)
    (hi : b ≤ i ∧ i < b + 96) (hordered : r.shares.Pairwise (fun x y => x.group < y.group))
    (hgroups : ∀ x ∈ r.shares, x.group < 64) (figure : Share → Quad) (op : Quad → Quad → Quad) (F : Nat → Quad)
    (hF : ∀ x ∈ r.shares, x.group = g → figure x = F x.power) (hzero : ∀ q, op q (F 0) = q) :
    (s.changeLoads r.first r.count r.shares figure op).cgr.entry g i = ⟨(s.cgr.entry g i).forecast,
      if r.first ≤ i ∧ i < r.first + r.count then op (s.cgr.entry g i).load (F (r.shareIn g))
      else (s.cgr.entry g i).load⟩ := by
  rw [State.changeLoads_entry s r.first r.count r.shares figure op hb hgroups hg hi]
  congr 1
  split
  · exact Commitment.foldl_share hordered g figure op F hF hzero _
  · rfl

theorem Quad.sub_zero_contribution (p : Product) (q : Quad) : q.sub (contribution p 0) = q := by
  rw [contribution_zero]
  rfl

theorem State.dropCommitment_entry {s : State} {x : Commitment} {b g i : Nat} (hb : s.eng.bookInterval = some b) (hg : g < 64)
    (hi : b ≤ i ∧ i < b + 96) (hordered : x.shares.Pairwise (fun y z => y.group < z.group))
    (hgroups : ∀ y ∈ x.shares, y.group < 64) : (s.dropCommitment x).cgr.entry g i = ⟨(s.cgr.entry g i).forecast,
      if x.first ≤ i ∧ i < x.first + x.count then
        (s.cgr.entry g i).load.sub (contribution (s.product x.product) (x.shareIn g))
      else (s.cgr.entry g i).load⟩ := by
  obtain ⟨-, -, -, -, -, -, -, -, -, -, -, hring⟩ := s.dropCommitment_frame x
  rw [Grid.entry_congr hring]
  exact State.changeLoads_share hb hg hi hordered hgroups _ _ (contribution (s.product x.product)) (fun _ _ _ => rfl)
    (Quad.sub_zero_contribution _)

/-- Settles O36: the checks of R99, then what dropping a record leaves. -/
theorem releaseRemovesRecord : Obligations.ReleaseRemovesRecord := by
  refine ⟨?_, ?_⟩
  · intro s k tag a hready hk id run refused
    have row {u : State} {c : Status} {b : ReplyBody} (ha : releaseWork a s = (u, c, b)) (hu : u.eng = s.eng) :
        run = .next (u.answered .market k tag (.release a) c b).endJob :=
      exec_free_of_answer s .market k tag (.release a) hready hk rfl nofun ha (congrArg Engine.hasWork hu)
    refine ⟨fun h => row (releaseWork_of_unnamed (Commitments.named_eq_none h)) rfl, ?_⟩
    intro x hid hx hissue commerce isOpen released
    have hwork := releaseWork_of_named (Commitments.named_of_record hid hx hissue)
    have hx' : x.id = id := (Commitments.record_mem hx).2
    have hc : s.mtu.commerce = true ↔ commerce := s.mtu.commerce_iff
    have ho : s.gateStatus x.first = .open ↔ isOpen := s.gateStatus_open_iff x.first
    have drops (h : releaseWork a s = (s.dropCommitment x, .ok, .released x.id x.issue x.state)) : released := by
      rw [hx', hissue] at h
      exact row h (s.dropCommitment_eng x)
    refine ⟨fun h => row (hwork.trans ?_) rfl, fun h => drops (hwork.trans ?_), fun h hn => row (hwork.trans ?_) rfl,
      fun h hn hg => row (hwork.trans ?_) rfl, fun h hn hg => drops (hwork.trans ?_)⟩ <;> rw [h]
    · rfl
    · exact if_pos (by simpa using mt hc.mp hn)
    · exact (if_neg (by simpa using hc.mpr hn)).trans (if_pos (mt ho.mp hg))
    · exact (if_neg (by simpa using hc.mpr hn)).trans (if_neg (not_not.mpr (ho.mpr hg)))
  · intro s x t u
    obtain ⟨-, -, -, -, -, -, hcmt, -⟩ := s.dropCommitment_frame x
    have ht : t.cmt = s.cmt.remove x.id := hcmt
    refine ⟨?_, fun i => ?_, ?_, ?_, ?_, fun hordered hgroups b g i hb hg hlow hhigh =>
      State.dropCommitment_entry hb hg ⟨hlow, hhigh⟩ hordered hgroups⟩
    · rw [ht]
      exact List.filter_congr fun y _ => Bool.eq_iff_iff.mpr (by simp)
    · rw [ht]
      simp only [Commitments.issue, Commitments.remove, Table.get_set]
      split
      · subst_vars; rfl
      · rfl
    · rw [ht]; rfl
    · rw [ht]; rfl
    · simp only [u, ht]
      rfl

/-! ### AWARD (R125 to R128) -/

theorem awardWork_of_unnamed {a : AwardArgs} {s : State} (h : s.cmt.named a.id.toNat a.issue = none) :
    awardWork a s = refuse s .unknown := by
  unfold awardWork
  rw [h]

theorem awardWork_of_refused {a : AwardArgs} {s : State} {r : Commitment} {c : Status}
    (h : s.cmt.named a.id.toNat a.issue = some r) (hc : awardCheck r s = some c) : awardWork a s = refuse s c := by
  unfold awardWork
  rw [h]
  dsimp only
  rw [hc]

/-- The state that an award of a quantity to a record leaves (R127, R128). -/
def State.award (s : State) (r : Commitment) (q : Nat) : State :=
  let t := s.changeLoads r.first r.count r.shares (awardDrop (s.product r.product) (r.reduced q)) Quad.sub
  ({ t with cmt := t.cmt.replace (r.reduced q) }).rescan (s.sharePairs r.first r.count r.shares)

/-- An award that its record's checks let pass (R126, R127). -/
theorem awardWork_of_passed {a : AwardArgs} {s : State} {r : Commitment} (h : s.cmt.named a.id.toNat a.issue = some r)
    (hc : awardCheck r s = none) : awardWork a s =
      if a.quantity.toNat = 0 then (s.dropCommitment r, .ok, .shares r.id r.issue 0 [])
      else if a.quantity.toNat > r.quantity ∨ a.quantity.toNat < (s.product r.product).minimum
        ∨ a.quantity.toNat % (s.product r.product).step ≠ 0 then refuse s .range
      else (s.award r a.quantity.toNat, .ok, .shares r.id r.issue a.quantity.toNat (r.reduced a.quantity.toNat).shares) := by
  unfold awardWork
  rw [h]
  dsimp only
  rw [hc]
  rfl

theorem State.award_frame (s : State) (r : Commitment) (q : Nat) : (s.award r q).eng = s.eng
    ∧ (s.award r q).cgr.ring
      = (s.changeLoads r.first r.count r.shares (awardDrop (s.product r.product) (r.reduced q)) Quad.sub).cgr.ring := by
  obtain ⟨-, -, -, -, -, heng, -, -, -, -, -, hring⟩ := State.rescan_frame
    { s.changeLoads r.first r.count r.shares (awardDrop (s.product r.product) (r.reduced q)) Quad.sub with
      cmt := s.cmt.replace (r.reduced q) } (s.sharePairs r.first r.count r.shares)
  exact ⟨heng, hring⟩

theorem State.award_entry {s : State} {x : Commitment} {b g i : Nat} (q : Nat) (hb : s.eng.bookInterval = some b)
    (hg : g < 64) (hi : b ≤ i ∧ i < b + 96) (hordered : x.shares.Pairwise (fun y z => y.group < z.group))
    (hgroups : ∀ y ∈ x.shares, y.group < 64) : (s.award x q).cgr.entry g i = ⟨(s.cgr.entry g i).forecast,
      if x.first ≤ i ∧ i < x.first + x.count then
        (s.cgr.entry g i).load.sub ((contribution (s.product x.product) (x.shareIn g)).sub
          (contribution (s.product x.product) ((x.reduced q).shareIn g)))
      else (s.cgr.entry g i).load⟩ := by
  rw [Grid.entry_congr (s.award_frame x q).2]
  refine State.changeLoads_share hb hg hi hordered hgroups _ _
    (fun m => (contribution (s.product x.product) m).sub (contribution (s.product x.product) ((x.reduced q).shareIn g)))
    (fun y _ hy => by rw [awardDrop, hy]) (fun l => ?_)
  simp [contribution_zero, Quad.sub]

/-- Settles O35: the checks of R125, then the record dropped or reduced (R126 to R128). -/
theorem awardChecksAndReduces : Obligations.AwardChecksAndReduces := by
  intro s k tag a hready hk id q run refused granted
  have row {u : State} {c : Status} {b : ReplyBody} (ha : awardWork a s = (u, c, b)) (hu : u.eng = s.eng) :
      run = .next (u.answered .market k tag (.award a) c b).endJob :=
    exec_free_of_answer s .market k tag (.award a) hready hk rfl nofun ha (congrArg Engine.hasWork hu)
  refine ⟨fun h => row (awardWork_of_unnamed (Commitments.named_eq_none h)) rfl, ?_⟩
  intro x hid hx hissue pr commerce isOpen fits n fall lower loads
  have hnamed := Commitments.named_of_record hid hx hissue
  have hx' : x.id = id := (Commitments.record_mem hx).2
  have hc : s.mtu.commerce = true ↔ commerce := s.mtu.commerce_iff
  have ho : s.gateStatus x.first = .open ↔ isOpen := s.gateStatus_open_iff x.first
  have passed (h : x.state = .held) (hn : commerce) (hg : isOpen) : awardCheck x s = none :=
    (if_neg (not_not.mpr h)).trans ((if_neg (by simpa using hc.mpr hn)).trans (if_neg (not_not.mpr (ho.mpr hg))))
  have reads {u : State} {c : Status} {y : ReplyBody} {given : Nat → Quad}
      (hrun : run = .next (u.answered .market k tag (.award a) c y).endJob)
      (hu : ∀ b g i, s.eng.bookInterval = some b → g < 64 → b ≤ i ∧ i < b + 96 →
        x.shares.Pairwise (fun y z => y.group < z.group) → (∀ y ∈ x.shares, y.group < 64) →
        u.cgr.entry g i = ⟨(s.cgr.entry g i).forecast, if x.first ≤ i ∧ i < x.first + x.count then
          (s.cgr.entry g i).load.sub (given g) else (s.cgr.entry g i).load⟩) : loads given := by
    intro hordered hgroups t b g i ht hb hg hlow hhigh
    cases hrun.symm.trans ht
    have hcgr : (u.answered .market k tag (.award a) c y).endJob.cgr = u.cgr := rfl
    rw [hcgr]
    exact hu b g i hb hg ⟨hlow, hhigh⟩ hordered hgroups
  refine ⟨fun h => row (awardWork_of_refused hnamed (if_pos h)) rfl, fun h hn => row (awardWork_of_refused hnamed ?_) rfl,
    fun h hn hg => row (awardWork_of_refused hnamed ?_) rfl, fun h hn hg hq => ?_,
    fun h hn hg hq hf => row ((awardWork_of_passed hnamed (passed h hn hg)).trans ((if_neg hq).trans (if_pos ?_))) rfl,
    fun h hn hg hq hf => ?_⟩
  · exact (if_neg (not_not.mpr h)).trans (if_pos (by simpa using mt hc.mp hn))
  · exact (if_neg (not_not.mpr h)).trans ((if_neg (by simpa using hc.mpr hn)).trans (if_pos (mt ho.mp hg)))
  · have hwork := (awardWork_of_passed hnamed (passed h hn hg)).trans (if_pos hq)
    rw [hx', hissue] at hwork
    have hrun := row hwork (s.dropCommitment_eng x)
    exact ⟨hrun, reads hrun fun b g i hb hg hi ho hgr => State.dropCommitment_entry hb hg hi ho hgr⟩
  · by_contra hn
    simp only [not_or, not_lt, not_not] at hn
    exact hf hn
  · obtain ⟨hle, hmin, hstep⟩ := hf
    have hwork := (awardWork_of_passed hnamed (passed h hn hg)).trans ((if_neg hq).trans (if_neg (by
      simp only [not_or, not_lt, not_not]
      exact ⟨hle, hmin, hstep⟩)))
    rw [hx', hissue] at hwork
    have hrun := row hwork (s.award_frame x q).1
    have haward : s.award x q = State.rescan { lower with cmt := { s.cmt with
        records := s.cmt.records.map (fun y => if y.id = id then n else y) } } (s.sharePairs x.first x.count x.shares) := by
      rw [← hx']
      rfl
    refine ⟨?_, reads hrun fun b g i hb hg hi ho hgr => State.award_entry q hb hg hi ho hgr⟩
    rw [← haward]
    exact hrun

end Sys2Proof.Machine
end


section
/-! PROOFS. The registry and the forecasts (3.4 to 3.6, 5.3). -/

namespace Sys2Proof.Machine

/-! ### SITE_SET, GROUP_SET and CURVE_SET -/

theorem Commitment.hasShare_iff (x : Commitment) (g : Nat) : x.hasShare g = true ↔ ∃ y ∈ x.shares, y.group = g := by
  simp [Commitment.hasShare]

theorem State.inUse_iff (s : State) (g : Nat) : s.inUse g = true ↔
    ∃ x ∈ s.cmt.records, (x.state = .held ∨ x.state = .awarded) ∧ ∃ y ∈ x.shares, y.group = g := by
  simp [State.inUse, Commitment.hasShare]

theorem State.sharesIn_eq (s : State) (g : Nat) (st : CommitState) : s.sharesIn g st =
    (s.cmt.records.filter (fun x => decide (x.state = st ∧ ∃ y ∈ x.shares, y.group = g))).length := by
  unfold State.sharesIn
  congr 1
  exact List.filter_congr fun x _ => Bool.eq_iff_iff.mpr (by simp [Commitment.hasShare])

/-- Settles O38: each request refuses, or writes the registry and raises ROLLUP as its job ends. -/
theorem registryIsSetAndRollupRaised : Obligations.RegistryIsSetAndRollupRaised := by
  intro s k tag hready hk refused wrote
  have row (r : Request) (hr : r.presentable .fleet = true) (h : jobOf r ≠ none) {b : ReplyBody} {f : Registry}
      (ha : jobAnswer r s = (State.raiseRollup { s with frg := f }, .ok, b)) :
      exec (commandOf .fleet tag r) s = wrote f r b := by
    rw [exec_free s .fleet k tag r hready hk hr h, ha]
  have turned (r : Request) (hr : r.presentable .fleet = true) (h : jobOf r ≠ none) {c : Status} {b : ReplyBody}
      (ha : jobAnswer r s = (s, c, b)) : exec (commandOf .fleet tag r) s = refused r c b :=
    exec_free_of_answer s .fleet k tag r hready hk hr h ha rfl
  refine ⟨?_, ?_, ?_⟩
  · intro a run x
    refine ⟨fun h => turned (.siteSet a) rfl nofun (b := .empty) ?_, fun h hg => row (.siteSet a) rfl nofun ?_⟩
    · obtain h | h := h
      · exact if_pos h
      · by_cases hs : a.site.toNat > 4095
        · exact if_pos hs
        · exact (if_neg hs).trans (if_pos h)
    · have hgroup : ¬(a.group.toNat > 63 ∧ a.group ≠ Config.noneCode) := fun hn =>
        hg.elim (fun hle => absurd hn.1 (not_lt.mpr hle)) hn.2
      exact (if_neg (not_lt.mpr h)).trans (if_neg hgroup)
  · intro a run g inRange carries used counted x
    have huse : s.inUse g = true ↔ used := s.inUse_iff g
    have hheld : counted .held = s.sharesIn g .held := (s.sharesIn_eq g .held).symm
    have hawarded : counted .awarded = s.sharesIn g .awarded := (s.sharesIn_eq g .awarded).symm
    refine ⟨fun h => turned (.groupSet a) rfl nofun (b := .empty) ?_, fun h hz hu => turned (.groupSet a) rfl nofun ?_,
      fun h hz => row (.groupSet a) rfl nofun ?_⟩
    · by_cases hg : a.group.toNat > 63
      · exact if_pos hg
      · refine (if_neg hg).trans ?_
        by_cases hz : a.zone.toNat > 15
        · exact if_pos hz
        · refine (if_neg hz).trans (if_pos ?_)
          by_contra hc
          exact h ⟨not_lt.mp hg, not_lt.mp hz, not_lt.mp hc⟩
    · obtain ⟨hg, hzone, hclass⟩ := h
      rw [hheld, hawarded]
      exact (if_neg (not_lt.mpr hg)).trans ((if_neg (not_lt.mpr hzone)).trans ((if_neg (not_lt.mpr hclass)).trans
        (if_pos ⟨hz, huse.mpr hu⟩)))
    · obtain ⟨hg, hzone, hclass⟩ := h
      have hfree : ¬(a.zone.toNat ≠ (s.frg.group g).zone ∧ s.inUse g = true) := fun hn =>
        hz.elim hn.1 (mt huse.mp · hn.2)
      rw [hheld, hawarded]
      refine (if_neg (not_lt.mpr hg)).trans ((if_neg (not_lt.mpr hzone)).trans ((if_neg (not_lt.mpr hclass)).trans
        ((if_neg hfree).trans ?_)))
      simp only [State.groupReport, State.raiseRollup_frg, Registry.group, Table.get_set_self]
      rfl
  · intro a hlength run v
    have hr : (Request.curveSet a).presentable .fleet = true := by
      simp [Request.presentable, permitted, kindPorts, requestCode, Request.wf, hlength]
    refine ⟨fun h => turned (.curveSet a) hr nofun (b := .empty) ?_, fun h hd => row (.curveSet a) hr nofun ?_⟩
    · obtain h | h := h
      · exact if_pos h
      · by_cases hs : a.curveClass.toNat > 3
        · exact if_pos hs
        · exact (if_neg hs).trans (if_pos h)
    · have hkey : curveKey a.curveClass.toNat (decide (a.direction = 1#8))
          = 2 * a.curveClass.toNat + a.direction.toNat := by
        by_cases h1 : a.direction = 1#8
        · simp [curveKey, h1]
        · have : a.direction.toNat = 0 := by bv_omega
          simp [curveKey, h1, this]
      refine (if_neg (not_lt.mpr h)).trans ((if_neg (not_lt.mpr hd)).trans ?_)
      dsimp only
      rw [hkey]

/-! ### FORECAST (R69) -/

/-- Forecasts written leave every pair but their own as it was. -/
theorem Grid.writeForecasts_other {b g h i m : Nat} (hg : g < 64) (hh : h < 64) (hm : b ≤ m ∧ m < b + 96)
    (l : List ForecastArgs) : ∀ (c : Grid), b ≤ i → i + l.length ≤ b + 96 → h ≠ g ∨ m < i ∨ i + l.length ≤ m →
      (c.writeForecasts g i l).entry h m = c.entry h m := by
  induction l generalizing i with
  | nil => intros; rfl
  | cons e l ih =>
    intro c hlow hhigh hother
    rw [List.length_cons] at hhigh hother
    have hkey : ringKey h m ≠ ringKey g i := fun heq => by
      obtain ⟨rfl, rfl⟩ := (ringKey_eq_iff hh hg hm ⟨hlow, by omega⟩).mp heq
      omega
    rw [Grid.writeForecasts, ih _ (by omega) (by omega) (by omega), Grid.entry_modify, if_neg hkey]

/-- A forecast written is the one of its interval; its load stands. -/
theorem Grid.writeForecasts_at {b g i j : Nat} {e : ForecastArgs} (hg : g < 64) (l : List ForecastArgs) :
    ∀ (c : Grid), b ≤ i → i + l.length ≤ b + 96 → l[j]? = some e →
      (c.writeForecasts g i l).entry g (i + j) = { forecast := forecastQuad e, load := (c.entry g (i + j)).load } := by
  induction l generalizing i j with
  | nil => intro _ _ _ he; simp at he
  | cons x l ih =>
    intro c hlow hhigh he
    rw [List.length_cons] at hhigh
    rw [Grid.writeForecasts]
    cases j with
    | zero =>
      obtain rfl : x = e := by simpa using he
      refine (Grid.writeForecasts_other (b := b) (i := i + 1) (m := i) hg hg ⟨hlow, by omega⟩ l _ (by omega) (by omega)
        (by omega)).trans ?_
      rw [Grid.entry_modify, if_pos rfl]
      rfl
    | succ j =>
      have hj : j < l.length := by
        have := (List.getElem?_eq_some_iff.mp he).1
        simpa using this
      have hkey : ringKey g (i + (j + 1)) ≠ ringKey g i := fun heq => by
        have := (ringKey_eq_iff (b := b) hg hg ⟨by omega, by omega⟩ ⟨hlow, by omega⟩).mp heq
        omega
      have hi : i + 1 + j = i + (j + 1) := by omega
      have hrest := ih (i := i + 1) (j := j) (c.modify g i (fun y => { y with forecast := forecastQuad x })) (by omega)
        (by omega) (by simpa using he)
      rw [hi, Grid.entry_modify, if_neg hkey] at hrest
      exact hrest

theorem State.limits_congr {s t : State} (hring : t.cgr.ring = s.cgr.ring) (htiu : t.tiu = s.tiu) (heng : t.eng = s.eng)
    (g i : Nat) : t.limits g i = s.limits g i := by
  have heff : t.effective g i = s.effective g i := by
    unfold State.effective
    rw [Grid.entry_congr hring, htiu, heng]
  unfold State.limits
  rw [heff, heng]

theorem State.rescan_kinds (s : State) (scope : List (Nat × Nat)) (g i : Nat) : (s.rescan scope).kinds g i = s.kinds g i := by
  obtain ⟨-, -, -, -, htiu, heng, -, -, -, -, -, hring⟩ := s.rescan_frame scope
  exact State.kinds_congr (State.limits_congr hring htiu heng g i) (by rw [Grid.entry_congr hring])

/-- Settles O39: the checks of R69, then the forecasts and the rescan of the entries written. -/
theorem forecastWritesAndRescans : Obligations.ForecastWritesAndRescans := by
  intro s k tag a hready hk hlow hhigh g first n run refused
  have hr : (Request.forecast a).presentable .fleet = true := by
    simp [Request.presentable, permitted, kindPorts, requestCode, Request.wf, hlow, hhigh]
  have turned {c : Status} (h : forecastCheck a s = some c) : run = .next (s.answered .fleet k tag (.forecast a) c .empty).endJob := by
    refine exec_free_of_refused s .fleet k tag (.forecast a) hready hk hr nofun ?_
    change forecastWork a s = _
    unfold forecastWork
    rw [h]
  have check (h : g ≤ 63) : forecastCheck a s = match s.eng.bookInterval with
      | none => some .range
      | some b => if first < b ∨ first + n - 1 > b + 95 then some .range else none := if_neg (not_lt.mpr h)
  refine ⟨fun h => turned ?_, fun b hg hb => ⟨fun h => turned ?_, fun hle hge => ?_⟩⟩
  · by_cases hg : a.group.toNat > 63
    · exact if_pos hg
    · refine (check (not_lt.mp hg)).trans ?_
      rw [h.resolve_left hg]
  · refine (check hg).trans ?_
    rw [hb]
    exact if_pos h
  · have hcheck : forecastCheck a s = none := by
      refine (check hg).trans ?_
      rw [hb]
      exact if_neg (not_or.mpr ⟨not_lt.mpr hle, not_lt.mpr hge⟩)
    have hspan : first + a.entries.length ≤ b + 96 := by
      have : n = a.entries.length := rfl
      omega
    refine ⟨s.cgr.writeForecasts g first a.entries, ?_⟩
    intro t u
    refine ⟨?_, (s.cgr.writeForecasts_list g first a.entries).1,
      (s.cgr.writeForecasts_list g first a.entries).2, fun j e he =>
        Grid.writeForecasts_at (b := b) (Nat.lt_succ_of_le hg) a.entries s.cgr hle hspan he,
      fun h i hh hbi hib hother => Grid.writeForecasts_other (Nat.lt_succ_of_le hg) hh ⟨hbi, hib⟩ a.entries s.cgr hle hspan hother⟩
    have hwork : forecastWork a s = (u, .ok, .forecast g first ((List.range' first n).map (fun i => t.kinds g i))
        u.cgr.overflow) := by
      unfold forecastWork
      rw [hcheck]
      have hkinds : (fun i => u.kinds g i) = fun i => t.kinds g i := funext (t.rescan_kinds _ g)
      rw [← hkinds]
    have heng : u.eng = s.eng := (t.rescan_frame _).2.2.2.2.2.1
    exact exec_free_of_answer s .fleet k tag (.forecast a) hready hk hr nofun hwork (congrArg Engine.hasWork heng)

end Sys2Proof.Machine
end


section
/-! PROOFS. Activation orders (9.2) and trip jobs (9.4). -/

namespace Sys2Proof.Machine

/-! ### The parts of an order -/

/-- A fraction held within its direction's range (R131 item 4). -/
theorem Direction.clamp_eq (d : Direction) (x : Int) : d.clamp x = match d with
    | .none => 0
    | .up => if x < 0 then 0 else min 1000 x
    | .down => if x < 0 then max (-1000) x else max (-1000) (-x)
    | .sym => max (-1000) (min 1000 x) := by
  cases d <;> simp only [Direction.clamp, clampInt] <;> omega

theorem State.orderCheck_of_range {s : State} {p : Nat} (h : 7 < p) : s.orderCheck p = some .range := if_pos h

theorem State.orderCheck_of_disabled {s : State} {p : Nat} (h : p ≤ 7) (he : (s.product p).enabled = false) :
    s.orderCheck p = some .disabled :=
  (if_neg (not_lt.mpr h)).trans (if_pos (by simp [he]))

theorem State.orderCheck_of_unawarded {s : State} {p : Nat} (h : p ≤ 7) (he : (s.product p).enabled = true)
    (ha : s.awardedNow p = false) : s.orderCheck p = some .nothingAwarded :=
  (if_neg (not_lt.mpr h)).trans ((if_neg (by simp [he])).trans (if_pos (by simp [ha])))

theorem State.orderCheck_of_passed {s : State} {p : Nat} (h : p ≤ 7) (he : (s.product p).enabled = true)
    (ha : s.awardedNow p = true) : s.orderCheck p = none :=
  (if_neg (not_lt.mpr h)).trans ((if_neg (by simp [he])).trans (if_neg (by simp [ha])))

section
variable {a : Acu} {p : Nat} {f : Int} {o : ActOrigin} {r : Activation}

theorem Acu.retarget_of_none (h : a.record p = none) :
    a.retarget p f o = some ({ product := p, target := f, current := 0, origin := o }, .created) := by
  unfold Acu.retarget
  rw [h]

theorem Acu.retarget_of_ended (h : a.record p = some r) (h0 : r.target = 0)
    (hc : r.cause = some .sustain ∨ r.cause = some .intervalEnd) : a.retarget p f o = none := by
  unfold Acu.retarget
  rw [h]
  exact (if_pos h0).trans (if_pos hc)

theorem Acu.retarget_of_deactivated (h : a.record p = some r) (h0 : r.target = 0) (hc : r.cause = some .deactivate) :
    a.retarget p f o = some ({ r with target := f, cause := none, origin := o }, .retargeted) := by
  unfold Acu.retarget
  rw [h]
  exact (if_pos h0).trans (if_neg (by simp [hc]))

theorem Acu.retarget_of_same (h : a.record p = some r) (h0 : r.target ≠ 0) (hf : r.target = f) :
    a.retarget p f o = some (r, .unchanged) := by
  unfold Acu.retarget
  rw [h]
  exact (if_neg h0).trans (if_pos hf)

theorem Acu.retarget_of_other (h : a.record p = some r) (h0 : r.target ≠ 0) (hf : r.target ≠ f) :
    a.retarget p f o = some ({ r with target := f, origin := o }, .retargeted) := by
  unfold Acu.retarget
  rw [h]
  exact (if_neg h0).trans (if_neg hf)

end

theorem State.deactivateProduct_of_none {s : State} {p : Nat} (h : s.acu.record p = none) :
    s.deactivateProduct p = refuse s .unknown := by
  unfold State.deactivateProduct
  rw [h]

theorem State.deactivateProduct_of_active {s : State} {p : Nat} {a : Activation} (h : s.acu.record p = some a)
    (h0 : a.target ≠ 0) : s.deactivateProduct p =
      ({ s with acu := s.acu.put { a with target := 0, cause := some .deactivate } }, .ok,
        .activation { a with target := 0, cause := some .deactivate } .ended) := by
  have hd : a.deactivated = ({ a with target := 0, cause := some .deactivate }, .ended) := if_neg h0
  unfold State.deactivateProduct
  rw [h]
  dsimp only
  rw [hd]

theorem State.deactivateProduct_of_ending {s : State} {p : Nat} {a : Activation} (h : s.acu.record p = some a)
    (h0 : a.target = 0) : s.deactivateProduct p = ({ s with acu := s.acu.put a }, .ok, .activation a .unchanged) := by
  have hd : a.deactivated = (a, .unchanged) := if_pos h0
  unfold State.deactivateProduct
  rw [h]
  dsimp only
  rw [hd]

theorem activateWork_of_refused {a : ActivateArgs} {s : State} {c : Status} (h : s.orderCheck a.product.toNat = some c) :
    activateWork a s = refuse s c := by
  unfold activateWork
  dsimp only
  rw [h]

/-- An order that the first three checks pass (R131). -/
theorem activateWork_of_passed {a : ActivateArgs} {s : State} {f : Int} (h : s.orderCheck a.product.toNat = none)
    (hf : (s.product a.product.toNat).direction.clamp a.fraction.toInt = f) : activateWork a s =
      if f = 0 then s.deactivateProduct a.product.toNat
      else match s.acu.retarget a.product.toNat f .grid with
        | none => refuse s .wrongState
        | some (r, o) => ({ s with acu := s.acu.put r }, .ok, .activation r o) := by
  unfold activateWork
  dsimp only
  rw [h, hf] <;> rfl

/-- Settles O16: the checks of R131, then what the order makes of the product's record (R132, R133). -/
theorem activateChecksAndRetargets : Obligations.ActivateChecksAndRetargets := by
  refine ⟨?_, ?_⟩
  · intro s k tag product fraction hready hk r p x f run refused left
    have row {u : State} {c : Status} {b : ReplyBody} (ha : activateWork ⟨product, fraction⟩ s = (u, c, b))
        (hu : u.eng = s.eng) : run = .next (u.answered .grid k tag r c b).endJob :=
      exec_free_of_answer s .grid k tag r hready hk rfl nofun ha (congrArg Engine.hasWork hu)
    refine ⟨fun h => row (activateWork_of_refused (State.orderCheck_of_range h)) rfl,
      fun h he => row (activateWork_of_refused (State.orderCheck_of_disabled h he)) rfl,
      fun h he ha => row (activateWork_of_refused (State.orderCheck_of_unawarded h he ha)) rfl, fun h he ha => ?_⟩
    have hwork := activateWork_of_passed (a := ⟨product, fraction⟩) (f := f) (State.orderCheck_of_passed h he ha)
      (Direction.clamp_eq _ _)
    have ends (hf : f = 0) {A : Answer} (hA : s.deactivateProduct p = A) : activateWork ⟨product, fraction⟩ s = A :=
      (hwork.trans (if_pos hf)).trans hA
    have moves (hf : f ≠ 0) {n : Activation} {o : OrderResult} (hA : s.acu.retarget p f .grid = some (n, o)) :
        run = left n o := by
      refine row (hwork.trans ((if_neg hf).trans ?_)) rfl
      rw [hA]
    refine ⟨fun hf hn => row (ends hf (State.deactivateProduct_of_none hn)) rfl,
      fun hf a hr h0 => row (ends hf (State.deactivateProduct_of_active hr h0)) rfl,
      fun hf a hr h0 => row (ends hf (State.deactivateProduct_of_ending hr h0)) rfl,
      fun hf hn => moves hf (Acu.retarget_of_none hn),
      fun hf a hr h0 hc => row (hwork.trans ((if_neg hf).trans ?_)) rfl,
      fun hf a hr h0 hc => moves hf (Acu.retarget_of_deactivated hr h0 hc),
      fun hf a hr h0 hne => moves hf (Acu.retarget_of_other hr h0 hne),
      fun hf a hr h0 heq => moves hf (Acu.retarget_of_same hr h0 heq)⟩
    rw [Acu.retarget_of_ended hr h0 hc]
    rfl
  · intro s k tag product hready hk r p run left
    have row {u : State} {c : Status} {b : ReplyBody} (ha : deactivateWork product s = (u, c, b))
        (hu : u.eng = s.eng) : run = .next (u.answered .grid k tag r c b).endJob :=
      exec_free_of_answer s .grid k tag r hready hk rfl nofun ha (congrArg Engine.hasWork hu)
    have works (h : p ≤ 7) : deactivateWork product s = s.deactivateProduct p := if_neg (not_lt.mpr h)
    exact ⟨fun h => row (if_pos h) rfl,
      fun h hn => row ((works h).trans (State.deactivateProduct_of_none hn)) rfl,
      fun h a hr h0 => row ((works h).trans (State.deactivateProduct_of_active hr h0)) rfl,
      fun h a hr h0 => row ((works h).trans (State.deactivateProduct_of_ending hr h0)) rfl⟩

end Sys2Proof.Machine
end


section
/-! PROOFS. The trip job (9.4): its outcome, its record and what stands. -/

namespace Sys2Proof.Machine

/-! ### The outcome (R141) -/

section
variable {s : State} {e : TripEvent}

theorem State.tripOutcome_of_unfit (h : (s.product e.product).direction.fits e.line = false) :
    s.tripOutcome e = (.range, none) :=
  if_pos (by simp [h])

theorem State.tripOutcome_of_refused {c : Status} (h : (s.product e.product).direction.fits e.line = true)
    (hc : s.orderCheck e.product = some c) : s.tripOutcome e = (c, none) := by
  refine (if_neg (by simp [h])).trans ?_
  rw [hc]

theorem Direction.clamp_line {d : Direction} {l : Line} (h : d.fits l = true) : d.clamp (Line.fraction l) = Line.fraction l := by
  revert h
  cases d <;> cases l <;> decide

/-- An event that its checks pass works its line's fraction as an order does. -/
theorem State.tripOutcome_of_passed (h : (s.product e.product).direction.fits e.line = true)
    (hf : e.fraction = Line.fraction e.line) (hc : s.orderCheck e.product = none) :
    s.tripOutcome e = match s.acu.retarget e.product e.fraction (Line.origin e.line) with
      | none => (.wrongState, none)
      | some (r, _) => (.ok, some r) := by
  refine (if_neg (by simp [h])).trans ?_
  have hclamp : (s.product e.product).direction.clamp e.fraction = e.fraction := by rw [hf]; exact Direction.clamp_line h
  rw [hc, hclamp] <;> rfl

end

/-- A trip job that refuses writes no record. -/
theorem State.tripOutcome_refused {s : State} {e : TripEvent} (h : (s.tripOutcome e).1 ≠ .ok) : (s.tripOutcome e).2 = none := by
  unfold State.tripOutcome at h ⊢
  dsimp only at h ⊢
  cases hfits : (s.product e.product).direction.fits e.line with
  | false => rfl
  | true =>
    simp only [hfits, Bool.not_true, Bool.false_eq_true, if_false] at h ⊢
    cases hc : s.orderCheck e.product with
    | some c => rfl
    | none =>
      simp only [hc] at h ⊢
      cases hr : s.acu.retarget e.product ((s.product e.product).direction.clamp e.fraction) (Line.origin e.line) with
      | none => rfl
      | some r => simp [hr] at h

/-! ### What the job leaves -/

/-- The ACU after a trip job: the record of its outcome and its line's last trip record. -/
theorem tripWork_acu (e : TripEvent) (s : State) :
    (tripWork e s).acu.records = (match (s.tripOutcome e).2 with
      | some r => (s.acu.put r).records
      | none => s.acu.records)
    ∧ (tripWork e s).acu.accounts = s.acu.accounts ∧ (tripWork e s).acu.guardTicks = s.acu.guardTicks
    ∧ (tripWork e s).acu.qualification = s.acu.qualification
    ∧ ∀ l, (tripWork e s).acu.line l = if l = e.line then
        { s.acu.line e.line with last := some ⟨(s.tripOutcome e).1, e.product, e.fraction, s.mtu.runSeconds⟩ }
      else s.acu.line l := by
  unfold tripWork
  simp only [State.raise_acu, Acu.withLine_frame, Acu.line_withLine]
  cases (s.tripOutcome e).2 <;> exact ⟨rfl, rfl, rfl, rfl, fun l => rfl⟩

theorem tripWork_count (e : TripEvent) (s : State) (p : Port) :
    (tripWork e s).count p .trip = if p = .fleet then s.count p .trip else min 255 (s.count p .trip + 1) := by
  unfold tripWork
  rw [State.count_raise]
  cases p <;> rfl

/-- Settles O17: the trip job ends with its outcome, and what it makes of the product's record. -/
theorem tripJobWorksLikeActivate : Obligations.TripJobWorksLikeActivate := by
  intro s e hs hj
  have hexec : exec .tripJob s = .next (tripWork e s).endJob.choose := by
    have htrip : s.eng.tripping = true := by simp [Engine.tripping, hj]
    have hrow : exec .tripJob s = .next (s.act (fun s => if s.eng.tripping then s.finishJob else s)) := rfl
    rw [hrow, State.act_running _ _ hs, if_pos htrip, State.finishJob_of_single s _ hj nofun nofun]
    simp only [State.jobEvent, hj]
  obtain ⟨hrecords, haccounts, hguard, hqual, hline⟩ := tripWork_acu e s
  obtain ⟨-, -, hmtu, hfrg, htiu, hcgr, hcmt, hdsp, hdvu, -⟩ := tripWork_frame e s
  refine ⟨(tripWork e s).endJob, (s.tripOutcome e).1, hexec, rfl, (hline e.line).trans (if_pos rfl),
    fun l hl => (hline l).trans (if_neg hl), haccounts, hguard, hqual, tripWork_count e s, hcmt, hcgr, hdsp, hmtu, htiu, hfrg,
    hdvu, fun hc => ?_, fun hf => by rw [State.tripOutcome_of_unfit hf], fun hf => ⟨fun h => ?_, fun h he => ?_,
      fun h he ha => ?_, fun h he ha hl => ?_⟩⟩
  · refine hrecords.trans ?_
    rw [State.tripOutcome_refused hc]
  · rw [State.tripOutcome_of_refused hf (State.orderCheck_of_range h)]
  · rw [State.tripOutcome_of_refused hf (State.orderCheck_of_disabled h he)]
  · rw [State.tripOutcome_of_refused hf (State.orderCheck_of_unawarded h he ha)]
  · have outcome := State.tripOutcome_of_passed hf hl (State.orderCheck_of_passed h he ha)
    have writes {n : Activation} {res : OrderResult}
        (hr : s.acu.retarget e.product e.fraction (Line.origin e.line) = some (n, res)) :
        (s.tripOutcome e).1 = .ok ∧ (tripWork e s).endJob.acu.records = (s.acu.put n).records := by
      refine ⟨by rw [outcome, hr], hrecords.trans ?_⟩
      rw [outcome, hr]
    exact ⟨fun hn => writes (Acu.retarget_of_none hn),
      fun a hr h0 hc => by rw [outcome, Acu.retarget_of_ended hr h0 hc],
      fun a hr h0 hc => writes (Acu.retarget_of_deactivated hr h0 hc),
      fun a hr h0 hne => writes (Acu.retarget_of_other hr h0 hne),
      fun a hr h0 heq => writes (Acu.retarget_of_same hr h0 heq)⟩

end Sys2Proof.Machine
end


section
/-! PROOFS. A HOLD never makes a load pass its limit (5.2): each share is at most its group's headroom, whose spares its
contribution therefore fits. -/

namespace Sys2Proof.Machine

/-! ### A share within the headroom -/

/-- An energy load of a share within the converted spare fits the spare. -/
theorem energyLoad_le_spare {t power spare : Nat} (h : power ≤ 60 * spare / t) : ceilDiv (power * t) 60 ≤ spare := by
  rcases Nat.eq_zero_or_pos t with rfl | ht
  · simp [ceilDiv]
  · exact (energyLoad_le_spare_iff ht power spare).mpr h

/-- The contribution of a share within the direction headroom fits the spares of the pair (R114, R115). -/
theorem contribution_le_spares {s : State} {p : Product} {g i share : Nat} (h : share ≤ s.directionHeadroom p g i)
    (k : Figure) : (contribution p share).figure k ≤ (s.spares g i).figure k := by
  cases hdir : p.direction with
  | none =>
    have hzero : contribution p share = {} := by simp only [contribution, hdir]
    simp [hzero]
  | up =>
    rw [State.directionHeadroom_of_up s g i hdir] at h
    have he := energyLoad_le_spare (h.trans (Nat.min_le_right _ _))
    have hp := h.trans (Nat.min_le_left _ _)
    rw [contribution_of_up share hdir]
    cases k with
    | pUp => exact hp
    | eUp => exact he
    | pDn | eDn => exact Nat.zero_le _
  | down =>
    rw [State.directionHeadroom_of_down s g i hdir] at h
    have he := energyLoad_le_spare (h.trans (Nat.min_le_right _ _))
    have hp := h.trans (Nat.min_le_left _ _)
    rw [contribution_of_down share hdir]
    cases k with
    | pDn => exact hp
    | eDn => exact he
    | pUp | eUp => exact Nat.zero_le _
  | sym =>
    rw [State.directionHeadroom_of_sym s g i hdir] at h
    have hup := h.trans (Nat.min_le_left _ _)
    have hdn := h.trans (Nat.min_le_right _ _)
    rw [contribution_of_sym share hdir]
    cases k
    · exact hup.trans (Nat.min_le_left _ _)
    · exact hdn.trans (Nat.min_le_left _ _)
    · exact energyLoad_le_spare (hup.trans (Nat.min_le_right _ _))
    · exact energyLoad_le_spare (hdn.trans (Nat.min_le_right _ _))

/-- A group's headroom over a range is at most the direction headroom of each of its intervals (R116). -/
theorem State.groupHeadroom_le (s : State) (p : Product) {first count i : Nat} (g : Nat) (hlow : first ≤ i)
    (hhigh : i < first + count) : (s.groupHeadroom p first count g).power ≤ s.directionHeadroom p g i := by
  have hspec := leastFrom_spec (s.directionHeadroom p g) first (count - 1)
  rw [State.groupHeadroom_eq]
  refine (Nat.min_le_right _ _).trans ?_
  rw [hspec.1]
  exact hspec.2.least i hlow (by omega)

/-- Each share of an allocation is at most its group's weight. -/
theorem allocate_le_weight {q : Nat} {weights : List (Nat × Nat)} (hkeys : (weights.map (·.1)).Nodup)
    (hpos : ∀ w ∈ weights, 1 ≤ w.2) (hq : q ≤ (weights.map (·.2)).sum) {x : Share}
    (hx : x ∈ allocate q (weights.map (·.2)).sum weights) : ∃ w ∈ weights, x.group = w.1 ∧ x.power ≤ w.2 := by
  obtain ⟨-, w, hw, hgroup, hvalue⟩ := mem_allocate.mp hx
  have htotal : 0 < (weights.map (·.2)).sum :=
    lt_of_lt_of_le (hpos w hw) (List.single_le_sum (fun _ _ => Nat.zero_le _) _ (List.mem_map_of_mem hw))
  refine ⟨w, hw, hgroup, ?_⟩
  rw [hvalue]
  exact share_le_weight (byGroup_nodup hkeys) (byGroup_sum weights).symm htotal hq (mem_byGroup.mpr hw)

/-- Each share that a HOLD's computing phase finds lies in a group of the Grid, within the group's headroom at every interval
of the range. -/
theorem holdScratch_share {a : HoldArgs} {s : State} (h : (holdScratch a s).refusal = none) {x : Share}
    (hx : x ∈ (holdScratch a s).shares) : x.group < 64 ∧ ∀ i, a.first.toNat ≤ i → i < a.first.toNat + a.count.toNat →
      x.power ≤ s.directionHeadroom (s.product a.product.toNat) x.group i := by
  obtain ⟨-, hle, hshares⟩ := holdScratch_accepts h
  have htotal : totalHeadroom (holdSelected a s) = (((holdSelected a s).map (fun h => (h.group, h.power))).map (·.2)).sum := by
    simp [totalHeadroom, Function.comp_def]
  rw [hshares, htotal] at hx
  rw [htotal] at hle
  have hpos : ∀ w ∈ (holdSelected a s).map (fun h => (h.group, h.power)), 1 ≤ w.2 := fun w hw => by
    obtain ⟨y, hy, rfl⟩ := List.mem_map.mp hw
    exact (mem_selectGroups hy).2
  obtain ⟨w, hw, hgroup, hpower⟩ :=
    allocate_le_weight (selected_keys_nodup (s.consider_nodup _ _ _ _)) hpos hle hx
  obtain ⟨y, hy, rfl⟩ := List.mem_map.mp hw
  obtain ⟨g, hg, rfl⟩ := List.mem_map.mp (mem_selectGroups hy).1
  refine ⟨hgroup ▸ ((s.mem_zoneGroups_iff _ _).mp hg).1, fun i hlow hhigh => ?_⟩
  rw [hgroup]
  exact hpower.trans (s.groupHeadroom_le _ g hlow hhigh)

/-! ### Loads that stay within limits -/

/-- Loads after an addition: each figure as it was, or within its limit. -/
theorem Quad.add_within {old given limit : Quad} (h : ∀ k, given.figure k ≤ limit.figure k - old.figure k) (k : Figure) :
    (old.add given).figure k = old.figure k ∨ (old.add given).figure k ≤ limit.figure k := by
  have := h k
  rw [Quad.figure_add]
  omega

/-- A load whose figures are as they were or within their limits exceeds them in the same kinds. -/
theorem Quad.exceeds_of_within {old new limit : Quad} (hle : ∀ k, old.figure k ≤ new.figure k)
    (h : ∀ k, new.figure k = old.figure k ∨ new.figure k ≤ limit.figure k) : new.exceeds limit = old.exceeds limit := by
  have same (k : Figure) : decide (limit.figure k < new.figure k) = decide (limit.figure k < old.figure k) := by
    have := hle k
    have := h k
    exact decide_eq_decide.mpr (by omega)
  exact Kinds.mk.injEq .. ▸ ⟨same .pUp, same .pDn, same .eUp, same .eDn⟩

/-! ### The commit -/

/-- A HOLD's commit changes nothing, or places the record of shares found at the lowest eligible id and adds its loads. -/
theorem holdCommit_cases (a : HoldArgs) (x : Scratch) (s : State) : (holdCommit a x s).1 = s
    ∨ x.refusal = none ∧ ∃ r, r = heldRecord a r.id r.issue x.shares
        ∧ (holdCommit a x s).1 = ({ s with cmt := s.cmt.place r }).addLoads r := by
  unfold holdCommit
  cases x.refusal with
  | some c => cases c <;> exact .inl rfl
  | none =>
    dsimp only
    split
    · exact .inl rfl
    · split
      · exact .inl rfl
      · cases s.cmt.lowestEligible with
        | none => exact .inl rfl
        | some id => exact .inr ⟨rfl, heldRecord a id (s.cmt.issue id) x.shares, rfl, rfl⟩

/-- The Book's part of a state that a HOLD leaves: its records stand, or one was placed whose loads were added. -/
structure HoldLeaves (a : HoldArgs) (s t : State) : Prop where
  tiu : t.tiu = s.tiu
  book : t.eng.bookInterval = s.eng.bookInterval
  settings : t.eng.settings = s.eng.settings
  commit : t.cgr = s.cgr ∧ t.cmt = s.cmt ∨ ∃ x r, x = holdScratch a s ∧ x.refusal = none
    ∧ r = heldRecord a r.id r.issue x.shares ∧ t.cmt = s.cmt.place r ∧ t.cgr = (s.addLoads r).cgr

/-- A free engine has no job to finish. -/
theorem State.finishJob_of_free {s : State} (hs : s.supply = .running) (hj : s.eng.job = none)
    (hw : s.eng.hasWork = false) : s.act State.finishJob = s := by
  rw [State.act_running _ _ hs, State.finishJob, State.jobEvents_of_idle _ _ hj, State.choose_of_noWork _ hw]

/-- A HOLD presented to a free engine leaves its commit, or nothing where every slot is occupied. -/
theorem holdLeaves_of_exec {a : HoldArgs} {s t : State} {tag : Byte} (hready : s.ready = true)
    (h : exec (.hold (.request .market tag a)) s = .next t) : HoldLeaves a s t := by
  obtain ⟨hs, hj, -, hw⟩ := s.ready_iff.mp hready
  cases hk : s.freeSlot .market with
  | none =>
    have hp : s.presented .market tag (.hold a) = s.withPort .market { (s.port .market).newTransfer with
        lastWriteRefused := true } := by
      rw [State.presented, State.transfer_running _ _ _ hs, State.present, State.write_full _ _ _ hk]
      exact State.choose_of_noWork _ hw
    have hrow := exec_commandOf_engine s .market tag (.hold a) nofun
    rw [if_pos ⟨hs, hj, hw⟩, hp, State.finishJob_of_free (by exact hs) (by exact hj) (by exact hw)] at hrow
    cases hrow.symm.trans h
    exact ⟨rfl, rfl, rfl, .inl ⟨rfl, rfl⟩⟩
  | some k =>
    have hcases := holdCommit_cases a (holdScratch a s) s
    have heng : (jobAnswer (.hold a) s).1.eng = s.eng := by
      obtain hsame | ⟨-, r, -, hplaced⟩ := hcases
      · exact congrArg State.eng hsame
      · have := congrArg State.eng hplaced
        exact this
    have hrow := exec_free_of_answer s .market k tag (.hold a) hready hk rfl nofun (Prod.mk.eta).symm
      (congrArg Engine.hasWork heng)
    cases hrow.symm.trans h
    obtain hsame | ⟨hnone, r, hr, hplaced⟩ := hcases
    · have hu : (jobAnswer (.hold a) s).1 = s := hsame
      rw [hu]
      exact ⟨rfl, rfl, rfl, .inl ⟨rfl, rfl⟩⟩
    · have hu : (jobAnswer (.hold a) s).1 = ({ s with cmt := s.cmt.place r }).addLoads r := hplaced
      rw [hu]
      exact ⟨rfl, rfl, rfl, .inr ⟨_, r, rfl, hnone, hr, rfl, rfl⟩⟩

/-- The entry of a pair after the commit of shares found (R121). -/
theorem addLoads_entry {a : HoldArgs} {s : State} {r : Commitment} {b g i : Nat} (hnone : (holdScratch a s).refusal = none)
    (hr : r = heldRecord a r.id r.issue (holdScratch a s).shares) (hb : s.eng.bookInterval = some b) (hg : g < 64)
    (hi : b ≤ i ∧ i < b + 96) : (s.addLoads r).cgr.entry g i = ⟨(s.cgr.entry g i).forecast,
      if r.first ≤ i ∧ i < r.first + r.count then
        (s.cgr.entry g i).load.add (contribution (s.product a.product.toNat) (r.shareIn g))
      else (s.cgr.entry g i).load⟩ := by
  have hshares : r.shares = (holdScratch a s).shares := by rw [hr]; rfl
  have hproduct : r.product = a.product.toNat := by rw [hr]; rfl
  rw [← hproduct]
  refine State.changeLoads_share hb hg hi (hshares ▸ holdScratch_ordered a s) (fun x hx => ?_) _ _
    (contribution (s.product r.product)) (fun _ _ _ => rfl) (fun q => ?_)
  · exact (holdScratch_share hnone (hshares ▸ hx)).1
  · rw [contribution_zero]
    rfl

/-- A record's share in a group at an interval of its range is within the group's headroom there. -/
theorem held_share_le {a : HoldArgs} {s : State} {r : Commitment} {i : Nat} (g : Nat) (hnone : (holdScratch a s).refusal = none)
    (hr : r = heldRecord a r.id r.issue (holdScratch a s).shares) (hi : r.first ≤ i ∧ i < r.first + r.count) :
    r.shareIn g ≤ s.directionHeadroom (s.product a.product.toNat) g i := by
  have hshares : r.shares = (holdScratch a s).shares := by rw [hr]; rfl
  have hfirst : r.first = a.first.toNat := by rw [hr]; rfl
  have hcount : r.count = a.count.toNat := by rw [hr]; rfl
  rw [hfirst, hcount] at hi
  by_cases hg : ∃ x ∈ r.shares, x.group = g
  · obtain ⟨x, hx, rfl⟩ := hg
    rw [Commitment.shareIn_of_mem (hshares ▸ holdScratch_ordered a s) hx]
    exact (holdScratch_share hnone (hshares ▸ hx)).2 i hi.1 hi.2
  · rw [Commitment.shareIn_of_not_mem fun x hx heq => hg ⟨x, hx, heq⟩]
    exact Nat.zero_le _

/-- A pair's limits read its forecast, the live sums, the book interval and the settings (R71, R72). -/
theorem State.limits_of_forecast {s t : State} {g i : Nat}
    (hf : (t.cgr.entry g i).forecast = (s.cgr.entry g i).forecast) (htiu : t.tiu = s.tiu)
    (hb : t.eng.bookInterval = s.eng.bookInterval) (hset : t.eng.settings = s.eng.settings) :
    t.limits g i = s.limits g i := by
  have heff : t.effective g i = s.effective g i := by
    unfold State.effective
    rw [hf, htiu, hb, hset]
  unfold State.limits
  rw [heff, hset]

/-- The load that a HOLD leaves, and what it says of the record created. -/
theorem HoldLeaves.load {a : HoldArgs} {s t : State} {b g i : Nat} (h : HoldLeaves a s t) (hb : s.eng.bookInterval = some b)
    (hg : g < 64) (hi : b ≤ i ∧ i < b + 96) :
    (t.cgr.entry g i).forecast = (s.cgr.entry g i).forecast
    ∧ (∃ given : Quad, (∀ k, given.figure k ≤ (s.limits g i).figure k - (s.cgr.entry g i).load.figure k)
        ∧ (t.cgr.entry g i).load = (s.cgr.entry g i).load.add given)
    ∧ (t.cmt.records = s.cmt.records → (t.cgr.entry g i).load = (s.cgr.entry g i).load)
    ∧ ∀ r ∈ t.cmt.records, r ∉ s.cmt.records → (t.cgr.entry g i).load =
        if r.first ≤ i ∧ i < r.first + r.count then
          (s.cgr.entry g i).load.add (contribution (s.product a.product.toNat) (r.shareIn g))
        else (s.cgr.entry g i).load := by
  obtain ⟨hcgr, hcmt⟩ | ⟨x, r, rfl, hnone, hr, hcmt, hcgr⟩ := h.commit
  · rw [hcgr, hcmt]
    exact ⟨rfl, ⟨{}, fun k => by simp, rfl⟩, fun _ => rfl, fun r hr hno => absurd hr hno⟩
  · have hentry := addLoads_entry hnone hr hb hg hi
    rw [← hcgr] at hentry
    rw [hentry]
    have hlength : t.cmt.records.length = s.cmt.records.length + 1 := by
      rw [hcmt]
      exact (insertBy_perm _ _ _).length_eq
    refine ⟨rfl, ?_, fun heq => by rw [heq] at hlength; omega, fun n hn hno => ?_⟩
    · dsimp only
      split
      · rename_i hin
        refine ⟨_, fun k => ?_, rfl⟩
        simpa only [State.spares, Quad.figure_sub] using contribution_le_spares (held_share_le g hnone hr hin) k
      · exact ⟨{}, fun k => by simp, rfl⟩
    · rw [hcmt] at hn
      obtain rfl : n = r := ((Commitments.mem_place).mp hn).resolve_right hno
      rfl

/-- Settles O59: the loads follow the records at every step, and each share of a HOLD fits the spares of its pairs. -/
theorem holdKeepsLoadsWithinLimits : Obligations.HoldKeepsLoadsWithinLimits := by
  refine ⟨fun s t htime hbook h hl hstep => step_loads htime hbook h hl hstep, fun s t tag a hready hrun => ?_⟩
  have h := holdLeaves_of_exec hready hrun
  have hlist : t.cgr.deficits = s.cgr.deficits ∧ t.cgr.overflow = s.cgr.overflow := by
    obtain ⟨hcgr, -⟩ | ⟨x, r, -, -, -, -, hcgr⟩ := h.commit
    · exact ⟨congrArg Grid.deficits hcgr, congrArg Grid.overflow hcgr⟩
    · rw [hcgr]
      exact s.changeLoads_list _ _ _ _ _
  refine ⟨hlist.1, hlist.2, fun g i hg hin => ?_⟩
  intro old new l pr
  obtain ⟨b, hb⟩ : ∃ b, s.eng.bookInterval = some b := by
    cases hb : s.eng.bookInterval with
    | none => simp [Engine.inHorizon, hb] at hin
    | some b => exact ⟨b, rfl⟩
  obtain ⟨hlow, hhigh⟩ := (Engine.inHorizon_iff hb i).mp hin
  obtain ⟨hforecast, ⟨given, hgiven, hload⟩, hsame, hadded⟩ := h.load hb hg ⟨hlow, hhigh⟩
  have hlimits : t.limits g i = l := State.limits_of_forecast hforecast h.tiu h.book h.settings
  have hwithin (k : Figure) : new.figure k = old.figure k ∨ new.figure k ≤ l.figure k := by
    have hnew : new = old.add given := hload
    rw [hnew]
    exact Quad.add_within hgiven k
  have hkinds : t.kinds g i = s.kinds g i := by
    rw [State.kinds_eq_exceeds, State.kinds_eq_exceeds, hlimits]
    refine Quad.exceeds_of_within (fun k => ?_) hwithin
    rw [hload, Quad.figure_add]
    exact Nat.le_add_right _ _
  exact ⟨hlimits, hkinds, hforecast, hwithin .pUp, hwithin .pDn, hwithin .eUp, hwithin .eDn, hsame, hadded⟩

end Sys2Proof.Machine
end


section
/-! PROOFS. The step, reset and power: what every command answers, what a release and a loss leave, and that nothing is worked
outside running. -/

namespace Sys2Proof.Machine

/-! ### The step and every command -/

/-- Settles O1, by the definition of the step. -/
theorem stepTakesFrontCommand : Obligations.StepTakesFrontCommand := by
  refine ⟨fun c rest s => rfl, fun s h => ?_⟩
  unfold step
  rw [h]

/-- No command faults or is refused. -/
theorem exec_next (i : Instr) (s : State) : ∃ t, exec i s = .next t := by
  cases i
  case tripLineAssert l =>
    change ∃ t, execTripLineAssert l s = .next t
    unfold execTripLineAssert
    split <;> exact ⟨_, rfl⟩
  case tripLineDeassert l =>
    change ∃ t, execTripLineDeassert l s = .next t
    unfold execTripLineDeassert
    split <;> exact ⟨_, rfl⟩
  all_goals exact ⟨_, rfl⟩

theorem Event.pending {s t : State} (e : Event s t) : t.pending = s.pending := by
  cases e with
  | reset c =>
    cases c with
    | powerOn => rfl
    | pin =>
      by_cases h : s.supply = .running
      · rw [State.beginReset_of_running h]
        rfl
      · rw [State.beginReset_of_stopped h]
  | work r hjob h => simp [h.frame]
  | commit r hjob h => simp [h.frame]
  | accepted h => cases h <;> simp [State.enterTimeState]
  | join x =>
    unfold State.enqueue
    split <;> simp
  | choose =>
    obtain heq | ⟨-, hstart⟩ := s.choose_started
    · rw [heq]
    · generalize s.choose = t at hstart
      cases hstart <;> rfl
  | powerFail | endJob | rolloverLast => rfl
  | link p => simp [State.linkReset]
  | _ => simp

/-- Settles O2: every row's meaning is a next state, and no event touches the queue. -/
theorem everyCommandAnswersNext : Obligations.EveryCommandAnswersNext := by
  intro i s
  obtain ⟨t, ht⟩ := exec_next i s
  refine ⟨t, ht, ?_⟩
  by_cases hi : i = .resetRelease
  · subst hi
    cases ht
    unfold State.release
    split <;> rfl
  · exact (exec_events hi ht).keep (P := fun u => u.pending = s.pending) (fun u v hu e => e.pending.trans hu) rfl

/-! ### Reset and power -/

/-- Settles O3: the reset state, the cause and the levels of the trip lines. -/
theorem releaseGivesResetValues : Obligations.ReleaseGivesResetValues := by
  refine ⟨fun s hs => ⟨{ State.reset with
      cause := s.cause
      acu := { State.reset.acu with
        uft := { State.reset.acu.uft with asserted := s.acu.uft.asserted }
        oft := { State.reset.acu.oft with asserted := s.acu.oft.asserted } }
      pending := s.pending }, ?_, ?_⟩, fun s hs => ?_⟩
  · change Host.Outcome.next s.release = _
    unfold State.release
    rw [hs]
  · refine ⟨rfl, rfl, rfl, fun _ => rfl, fun _ => rfl, fun _ _ => rfl, fun _ => ⟨rfl, rfl⟩, fun _ => rfl, rfl, rfl, rfl, rfl,
      rfl, rfl, rfl, rfl, rfl, rfl, rfl, rfl, rfl, rfl, rfl, rfl, rfl, rfl, rfl, rfl, fun _ => rfl, fun _ => rfl, rfl,
      fun _ => rfl, fun l => ?_, rfl, rfl, fun _ => rfl, fun _ => rfl, rfl, rfl, rfl, rfl, fun p => ?_⟩
    · cases l <;> rfl
    · have hattn : (Supply.running == Supply.running && PortState.released.wantsAttention) = true := by decide
      cases p <;> exact ⟨fun _ => rfl, rfl, rfl, rfl, rfl, fun k => by cases k <;> rfl, hattn⟩
  · change Host.Outcome.next s.release = _
    unfold State.release
    split
    · exact absurd ‹_› hs
    · rfl
    · rfl

/-- Outside running no port asks for attention. -/
theorem State.attn_of_stopped {s : State} (h : s.supply ≠ .running) (p : Port) : s.attn p = false := by
  simp [State.attn, h]

/-- Settles O4: what is lost, and a fall of RESETn that is not seen. -/
theorem resetBeginsAndPowerFails : Obligations.ResetBeginsAndPowerFails := by
  intro s lost
  have lose (x : Supply) (c : ResetCause) (hx : x ≠ .running) : lost { s.lose with supply := x, cause := c } :=
    ⟨rfl, rfl, rfl, rfl, rfl, rfl, fun p => ⟨by cases p <;> rfl, State.attn_of_stopped hx p⟩⟩
  refine ⟨⟨_, rfl, rfl, rfl, lose .held .powerOn nofun⟩, fun h => ⟨_, ?_, rfl, rfl, lose .held .pin nofun⟩, fun h => ?_,
    ⟨_, rfl, rfl, lose .off s.cause nofun⟩⟩
  · exact congrArg _ (State.beginReset_of_running h)
  · exact congrArg _ (State.beginReset_of_stopped h)

/-! ### Outside running (R174) -/

/-- A command worked in a device reset or without power: at most a port's MISO or a pin's level follows. -/
inductive Unworked (s : State) : State → Prop
  | nothing : Unworked s s
  | miso (p : Port) : Unworked s (s.withPort p { s.port p with miso := .dontCare })
  | level (l : Line) (b : Bool) : Unworked s (s.setLevel l b)

theorem Unworked.transfer {s : State} (h : s.supply ≠ .running) (p : Port) (f : State → State) :
    Unworked s (s.transfer p f) := by
  obtain heq | heq := s.transfer_stopped p f h
  · rw [heq]
    exact .nothing
  · rw [heq]
    exact .miso p

theorem Unworked.act {s : State} (h : s.supply ≠ .running) (f : State → State) : Unworked s (s.act f) := by
  rw [State.act_stopped _ _ h]
  exact .nothing

theorem Unworked.tickIf {s : State} (h : s.supply ≠ .running) (due : Bool) : Unworked s (s.tickIf due) := by
  unfold State.tickIf
  split
  · exact .act h _
  · exact .nothing

theorem Unworked.jobRow {α : Type} {s : State} (h : s.supply ≠ .running) (kind : Byte) (make : α → Request) (f : JobForm α) :
    Unworked s (s.jobRow kind make f) := by
  cases f with
  | request p tag a =>
    have hfree : ¬(s.supply = .running ∧ s.eng.job = none ∧ s.eng.hasWork = false) := fun hn => h hn.1
    unfold State.jobRow
    dsimp only
    rw [if_neg hfree]
    exact .transfer h p _
  | job => exact .act h _

theorem exec_stopped {i : Instr} {s t : State} (h : s.supply ≠ .running) (hi : Instr.ofReset i = false)
    (hexec : exec i s = .next t) : Unworked s t := by
  cases i <;> simp only [exec] at hexec
  case resetRelease | deviceReset | powerFail => cases hi
  case tickEvent | ppsPulse | tripJob | rollover | rollup | dispatch => cases hexec; exact .act h _
  case tripLineAssert l | tripLineDeassert l =>
    first | unfold execTripLineAssert at hexec | unfold execTripLineDeassert at hexec
    split at hexec
    · exact absurd ‹_› h
    · cases hexec; exact .level l _
    · cases hexec; exact .level l _
  case tripQualified l =>
    unfold execTripQualified at hexec
    split at hexec
    · cases hexec; exact .act h _
    · split at hexec <;> cases hexec
      · exact .act h _
      · exact .nothing
  case secondMark | boundaryEvent | missingPulse | holdoverToFailed | rollupPeriodExpiry | sustainLimit | guardEnd =>
    cases hexec; exact .tickIf h _
  case write | read | linkReset | timeSet | armTrip | configureGrid | readActivations | readCapture | clearCapture | telemetry
      | configureFleet | setpointChanges | readSetpoints | readStatus | readNotices | setAttention =>
    cases hexec; exact .transfer h _ _
  all_goals cases hexec; exact .jobRow h _ _ _

/-- Settles O5: the kept state of each outcome of a command outside running. -/
theorem nothingIsWorkedInReset : Obligations.NothingIsWorkedInReset := by
  intro i s t hs hi hexec
  have hattn (u : State) (hu : u.supply = s.supply) (p : Port) : u.attn p = false := State.attn_of_stopped (hu ▸ hs) p
  cases exec_stopped hs hi hexec with
  | nothing => exact ⟨rfl, rfl, rfl, rfl, rfl, rfl, rfl, rfl, rfl, rfl, rfl, rfl, rfl, rfl, fun _ => rfl, fun p => ⟨rfl, hattn s rfl p⟩⟩
  | miso q =>
    refine ⟨by simp, by simp, by simp, by simp, by simp, by simp, by simp, by simp, by simp, by simp, by simp, by simp,
      by simp, by simp, fun l => by simp, fun p => ⟨?_, hattn _ (by simp) p⟩⟩
    rw [State.port_withPort]
    split
    · subst_vars; rfl
    · rfl
  | level l b =>
    refine ⟨rfl, rfl, rfl, rfl, rfl, rfl, rfl, rfl, rfl, rfl, ?_, ?_, ?_, ?_, fun m => ?_, fun p => ⟨?_, hattn _ rfl p⟩⟩
    · exact (s.acu.withLine_frame l _).1
    · exact (s.acu.withLine_frame l _).2.1
    · exact (s.acu.withLine_frame l _).2.2.1
    · exact (s.acu.withLine_frame l _).2.2.2
    · cases l <;> cases m <;> rfl
    · cases p <;> rfl

/-- Settles O51, by the invariants' own lemmas on the reset state. -/
theorem invariantsHoldAtReset : Obligations.InvariantsHoldAtReset := by
  refine ⟨.reset, ⟨.nil, nofun, nofun, nofun, nofun, fun e he => ?_⟩, .reset, .reset, fun _ b g i hb => (Option.some_ne_none b hb.symm).elim,
    fun l => Nat.zero_le _,
    ⟨.nil, nofun⟩, rfl, rfl, rfl⟩
  obtain he | he := he
  · nomatch he
  · nomatch he

end Sys2Proof.Machine
end


section
/-! PROOFS. The engine's starts (6.4), arrivals and abandonment (6.3, 6.6), and what events outside the engine leave (6.1). -/

namespace Sys2Proof.Machine

/-! ### The start of the highest-ranked work (R85) -/

theorem State.choose_of_idle {s : State} (h : s.eng.job = none) : s.choose = s.startNext := by
  simp [State.choose, h]

theorem State.startNext_of_activation {s : State} {a : ActEntry} {t : List ActEntry} (h : s.eng.activation = a :: t) :
    s.startNext = { s with eng := { s.eng with activation := t, job := some a.job } } := by
  unfold State.startNext
  dsimp only
  rw [h]

/-- Without ACTIVATION work the triggers are asked in their order. -/
theorem State.startNext_of_triggers {s : State} (h : s.eng.activation = []) : s.startNext =
    if s.eng.dispatch.flag then
      State.startDispatch { s with eng := { s.eng with dispatch := { s.eng.dispatch with flag := false } } }
    else if s.eng.housekeeping.flag then
      { s with eng := { s.eng with
        housekeeping := { s.eng.housekeeping with flag := false }, job := some (.rollover .between) } }
    else if s.eng.rollup.flag then
      { s with eng := { s.eng with rollup := { s.eng.rollup with flag := false }, job := some (.rollup .snapshot) } }
    else
      match s.eng.fleet, s.eng.book, s.eng.admission with
      | x :: t, _, _ => { s with eng := { s.eng with fleet := t, job := some (.fleet ⟨x, false⟩) } }
      | [], x :: t, _ => { s with eng := { s.eng with book := t, job := some (.book ⟨x, false⟩) } }
      | [], [], x :: t => State.startAdmission { s with eng := { s.eng with admission := t } } x
      | [], [], [] => s := by
  unfold State.startNext
  dsimp only
  rw [h] <;> rfl

/-- Settles O48: each class starts when those ranked above it hold no work. -/
theorem engineStartsHighestRankedWork : Obligations.EngineStartsHighestRankedWork := by
  intro s e with_
  refine ⟨fun hj => ?_, fun hj => ?_⟩
  · obtain ⟨j, hj⟩ := Option.ne_none_iff_exists'.mp hj
    exact State.choose_of_job s j hj
  · have hc := State.choose_of_idle hj
    refine ⟨fun a t h => ?_, fun h hd => ?_, fun h hd => ⟨fun hh => ?_, fun hh => ⟨fun hr => ?_, fun hr => ?_⟩⟩⟩
    · rw [hc, State.startNext_of_activation h]
      cases a <;> rfl
    · rw [hc, State.startNext_of_triggers h, if_pos hd]
      refine ⟨rfl, fun g hg => ?_, rfl⟩
      exact (Table.get_tabulate (d := ({} : GroupDispatch))).trans (if_pos hg)
    · rw [hc, State.startNext_of_triggers h, if_neg (by simp [e, hd]), if_pos hh]
    · rw [hc, State.startNext_of_triggers h, if_neg (by simp [e, hd]), if_neg (by simp [e, hh]), if_pos hr]
    · rw [hc, State.startNext_of_triggers h, if_neg (by simp [e, hd]), if_neg (by simp [e, hh]), if_neg (by simp [e, hr])]
      refine ⟨fun x t hf => ?_, fun x t hf hb => ?_, fun x t hf hb ha => ?_, fun hf hb ha => ?_⟩
      · simp [with_, e, show s.eng.fleet = x :: t from hf]
      · simp [with_, e, show s.eng.fleet = [] from hf, show s.eng.book = x :: t from hb]
      · simp [with_, e, show s.eng.fleet = [] from hf, show s.eng.book = [] from hb, show s.eng.admission = x :: t from ha,
          State.startAdmission]
      · simp [show s.eng.fleet = [] from hf, show s.eng.book = [] from hb, show s.eng.admission = [] from ha]

/-! ### Arrivals (R84, R89) -/

/-- An ADMISSION job whose count is below 3 is abandoned by an arrival. -/
theorem Engine.abandoned_of_below {e : Engine} {r : Running} (h : e.job = some (.admission r)) (hr : r.entry.abandons < 3) :
    e.abandoned = { e with
      job := none
      scratch := none
      admission := if r.orphan then e.admission else { r.entry with abandons := r.entry.abandons + 1 } :: e.admission
      abandonTotal := saturate 65535 (e.abandonTotal + 1) } := by
  unfold Engine.abandoned
  rw [h]
  exact if_pos hr

/-- Any other job goes on. -/
theorem Engine.abandoned_of_immune {e : Engine} (h : ∀ r, e.job = some (.admission r) → 3 ≤ r.entry.abandons) :
    e.abandoned = e := by
  obtain heq | ⟨r, hr, hlt, -⟩ := e.abandoned_cases
  · exact heq
  · exact absurd (h r hr) (Nat.not_le.mpr hlt)

/-- Settles O49: the raise of a trigger, an arrival by the job it finds, and an ACTIVATE that abandons. -/
theorem arrivalsMergeAndAbandon : Obligations.ArrivalsMergeAndAbandon := by
  refine ⟨fun t => ⟨fun h => ?_, fun h => ?_⟩, fun s => ⟨rfl, rfl⟩, ?_, ?_⟩
  · simp [Trigger.raised, h]
  · obtain ⟨flag, merges⟩ := t
    simp_all [Trigger.raised, saturate]
  · intro s a joined raised
    refine ⟨fun r hj hr => ?_, fun h => ?_⟩
    · intro gone
      have hjoin := Engine.abandoned_of_below (e := joined) hj hr
      have hraise := Engine.abandoned_of_below (e := raised) hj hr
      exact ⟨congrArg (fun x => { s with eng := x }) hjoin, congrArg (fun x => { s with eng := x }) hraise⟩
    · have hjoin := Engine.abandoned_of_immune (e := joined) h
      have hraise := Engine.abandoned_of_immune (e := raised) h
      exact ⟨congrArg (fun x => { s with eng := x }) hjoin, congrArg (fun x => { s with eng := x }) hraise⟩
  · intro s r k tag a hs hj hr ho hact hk
    have hbusy : ¬(s.supply = .running ∧ s.eng.job = none ∧ s.eng.hasWork = false) := fun h => by simp [hj] at h
    have hrow := exec_commandOf_engine s .grid tag (.activate a) nofun
    rw [if_neg hbusy, State.presented, State.transfer_running _ _ _ hs, State.present_accepted s .grid k tag _ hk rfl,
      State.accept_of_engine _ _ _ _ _ rfl] at hrow
    let x := entryOf .grid k tag (.activate a)
    let t := s.taken .grid k tag (.activate a)
    let joined : Engine := { s.eng with activation := s.eng.activation ++ [.order x] }
    have hgone := Engine.abandoned_of_below (e := joined) hj hr
    have henq : t.enqueue x = { t with eng := joined.abandoned } := rfl
    have hstart : (t.enqueue x).choose = { t with eng := { joined.abandoned with
        activation := [], job := some (.order ⟨x, false⟩) } } := by
      rw [henq]
      refine (State.choose_of_idle (by simp [hgone])).trans (State.startNext_of_activation (a := .order x) (t := []) ?_)
      simp [joined, hact]
    refine ⟨_, hrow, ?_⟩
    rw [hstart, hgone]
    exact ⟨rfl, rfl, by simp [ho, joined], rfl, rfl, rfl⟩

end Sys2Proof.Machine
end

section
/-! PROOFS. What only the engine's jobs write (6.1): every event of time, pins, transfers and requests worked on acceptance
leaves the Book, the registry, the rollup's result and the setpoints as they are. -/
namespace Sys2Proof.Machine

/-- A group's dispatch record but for its guard, its last-change tick and the copy of its published target. -/
def GroupDispatch.SameTarget (d e : GroupDispatch) : Prop :=
  e.published = d.published ∧ e.computed = d.computed ∧ e.mask = d.mask ∧ e.short = d.short

/-- What only the engine's jobs write stands from `s` to `t`. -/
structure State.Untouched (s t : State) : Prop where
  cmt : t.cmt = s.cmt
  cgr : t.cgr = s.cgr
  frg : t.frg = s.frg
  sites : t.tiu.sites = s.tiu.sites
  groups : t.tiu.groups = s.tiu.groups
  setpoints : t.dsp.setpoints = s.dsp.setpoints
  sequence : t.dsp.sequence = s.dsp.sequence
  book : t.eng.bookInterval = s.eng.bookInterval
  settings : t.eng.settings = s.eng.settings
  targets : ∀ g, g < Config.numGroups → (s.dsp.group g).SameTarget (t.dsp.group g)

namespace State.Untouched

variable {s t u : State}

theorem refl (s : State) : s.Untouched s :=
  ⟨rfl, rfl, rfl, rfl, rfl, rfl, rfl, rfl, rfl, fun _ _ => ⟨rfl, rfl, rfl, rfl⟩⟩

theorem trans (h : s.Untouched t) (h' : t.Untouched u) : s.Untouched u where
  cmt := h'.cmt.trans h.cmt
  cgr := h'.cgr.trans h.cgr
  frg := h'.frg.trans h.frg
  sites := h'.sites.trans h.sites
  groups := h'.groups.trans h.groups
  setpoints := h'.setpoints.trans h.setpoints
  sequence := h'.sequence.trans h.sequence
  book := h'.book.trans h.book
  settings := h'.settings.trans h.settings
  targets g hg := by
    obtain ⟨hp, hc, hm, hs⟩ := h.targets g hg
    obtain ⟨hp', hc', hm', hs'⟩ := h'.targets g hg
    exact ⟨hp'.trans hp, hc'.trans hc, hm'.trans hm, hs'.trans hs⟩

/-- An event that leaves the records of the Dispatch Unit. -/
theorem of_groups (hcmt : t.cmt = s.cmt) (hcgr : t.cgr = s.cgr) (hfrg : t.frg = s.frg) (hsites : t.tiu.sites = s.tiu.sites)
    (hgroups : t.tiu.groups = s.tiu.groups) (hdsp : t.dsp.groups = s.dsp.groups) (hsetpoints : t.dsp.setpoints = s.dsp.setpoints)
    (hsequence : t.dsp.sequence = s.dsp.sequence) (hbook : t.eng.bookInterval = s.eng.bookInterval)
    (hsettings : t.eng.settings = s.eng.settings) : s.Untouched t where
  cmt := hcmt
  cgr := hcgr
  frg := hfrg
  sites := hsites
  groups := hgroups
  setpoints := hsetpoints
  sequence := hsequence
  book := hbook
  settings := hsettings
  targets g _ := by simp [DispatchUnit.group, hdsp, GroupDispatch.SameTarget]

/-- An event of one block's own state, the ports or the activations. -/
theorem of_eq (hcmt : t.cmt = s.cmt) (hcgr : t.cgr = s.cgr) (hfrg : t.frg = s.frg) (htiu : t.tiu = s.tiu) (hdsp : t.dsp = s.dsp)
    (heng : s.eng.Arrived t.eng) : s.Untouched t :=
  of_groups hcmt hcgr hfrg (by rw [htiu]) (by rw [htiu]) (by rw [hdsp]) (by rw [hdsp]) (by rw [hdsp])
    heng.bookInterval heng.settings

theorem choose (s : State) : s.Untouched s.choose where
  cmt := by simp
  cgr := by simp
  frg := by simp
  sites := by simp
  groups := by simp
  setpoints := by
    obtain h | ⟨_, h⟩ := s.choose_started
    · rw [h]
    · generalize s.choose = t at h
      cases h <;> rfl
  sequence := by
    obtain h | ⟨_, h⟩ := s.choose_started
    · rw [h]
    · generalize s.choose = t at h
      cases h <;> rfl
  book := by simp
  settings := by simp
  targets g hg := by
    obtain h | ⟨_, h⟩ := s.choose_started
    · rw [h]
      exact ⟨rfl, rfl, rfl, rfl⟩
    · generalize s.choose = t at h
      cases h with
      | dispatch _ =>
        have hcopied : (State.startDispatch { s with eng := { s.eng with dispatch := { s.eng.dispatch with flag := false } } }).dsp.group g
            = { s.dsp.group g with previous := (s.dsp.group g).published } := Table.get_tabulate.trans (if_pos hg)
        rw [hcopied]
        exact ⟨rfl, rfl, rfl, rfl⟩
      | _ => exact ⟨rfl, rfl, rfl, rfl⟩

theorem act {f : State → State} (h : s.Untouched (f s)) : s.Untouched (s.act f) := by
  unfold State.act
  split
  · exact h.trans (choose _)
  · exact refl s
  · exact refl s

theorem withPort (s : State) (p : Port) (x : PortState) : s.Untouched (s.withPort p x) :=
  of_eq (by simp) (by simp) (by simp) (by simp) (by simp) (by simpa using .refl _)

theorem transfer {f : State → State} (p : Port) (h : s.Untouched (f s)) : s.Untouched (s.transfer p f) := by
  unfold State.transfer
  split
  · exact h.trans (choose _)
  · exact withPort _ _ _
  · exact refl s

/-! ### The tick event and the pulses -/

theorem secondMark (s : State) : s.Untouched s.secondMark :=
  of_groups (by simp) (by simp) (by simp) (by rw [State.secondMark_eq]) (by rw [State.secondMark_eq]) (by simp) (by simp)
    (by simp) (State.secondMark_arrived (.refl _)).bookInterval (State.secondMark_arrived (.refl _)).settings

theorem acuTick (s : State) : s.Untouched s.acuTick :=
  of_eq (by simp) (by simp) (by simp) (by simp) (by simp) (State.acuTick_arrived (.refl _))

theorem tick_guard (d : GroupDispatch) : d.SameTarget d.tick := by
  unfold GroupDispatch.tick
  split
  · exact ⟨rfl, rfl, rfl, rfl⟩
  · exact ⟨rfl, rfl, rfl, rfl⟩

theorem dspTick (s : State) : s.Untouched s.dspTick where
  cmt := by simp
  cgr := by simp
  frg := by simp
  sites := by simp
  groups := by simp
  setpoints := by simp [State.dspTick]
  sequence := by simp [State.dspTick]
  book := (State.dspTick_arrived (.refl _)).bookInterval
  settings := (State.dspTick_arrived (.refl _)).settings
  targets g hg := by
    have hticked : s.dspTick.dsp.group g = (s.dsp.group g).tick := by
      simp only [State.dspTick, State.raiseDispatchIf_dsp, DispatchUnit.group]
      exact Table.get_tabulate.trans (if_pos hg)
    rw [hticked]
    exact tick_guard _

/-- Work of the Market Time Unit alone. -/
theorem of_mtu (hcmt : t.cmt = s.cmt) (hcgr : t.cgr = s.cgr) (hfrg : t.frg = s.frg) (htiu : t.tiu = s.tiu) (hdsp : t.dsp = s.dsp)
    (heng : t.eng = s.eng) : s.Untouched t := of_eq hcmt hcgr hfrg htiu hdsp (heng ▸ .refl _)

theorem missPulse (s : State) : s.Untouched s.missPulse :=
  of_mtu (by simp) (by simp) (by simp) (by simp) (by simp) (by simp)

theorem countGood (s : State) : s.Untouched s.countGood :=
  of_mtu (by simp) (by simp) (by simp) (by simp) (by simp) (by simp)

theorem mtuTick (s : State) : s.Untouched s.mtuTick := by
  unfold State.mtuTick
  generalize hu : (if s.mtu.phase = 1 ∧ s.mtu.window = true then s.missPulse else s) = u
  have hjudged : s.Untouched u := by
    subst hu
    split
    · exact missPulse s
    · exact refl s
  dsimp only
  split
  · have hphase : u.Untouched { u with mtu := { u.mtu with phase := 0 } } := of_mtu rfl rfl rfl rfl rfl rfl
    exact hjudged.trans (hphase.trans (secondMark _))
  · exact hjudged.trans (of_mtu rfl rfl rfl rfl rfl rfl)

theorem tick (s : State) : s.Untouched s.tick := ((mtuTick s).trans (acuTick _)).trans (dspTick _)

theorem goodPulse (s : State) : s.Untouched s.goodPulse := by
  unfold State.goodPulse
  dsimp only
  have hphase : s.Untouched { s with mtu := { s.mtu with window := false, phase := 0 } } := of_mtu rfl rfl rfl rfl rfl rfl
  split
  · exact (((hphase.trans (secondMark _)).trans (acuTick _)).trans (dspTick _)).trans (countGood _)
  · exact hphase.trans (countGood _)

theorem startingPulse (s : State) (n : PendingCalendar) : s.Untouched (s.startingPulse n) := by
  by_cases h : n.restart = true ∧ n.interval < s.mtu.clock
  · rw [State.startingPulse_of_past h]
    exact of_mtu rfl rfl rfl rfl rfl rfl
  · rw [State.startingPulse_eq h]
    exact of_groups rfl rfl rfl rfl rfl rfl rfl rfl rfl rfl

theorem ppsPulse (s : State) : s.Untouched s.ppsPulse := by
  have h := s.ppsPulse_pulsed
  generalize s.ppsPulse = t at h
  cases h with
  | ignored => exact refl s
  | stray => exact of_mtu rfl rfl rfl rfl rfl rfl
  | starting n _ _ => exact startingPulse s n
  | good => exact goodPulse s

/-! ### Pins and transfers -/

theorem assertLine (s : State) (l : Line) : s.Untouched (s.assertLine l) :=
  of_eq (by simp) (by simp) (by simp) (by simp) (by simp) (State.assertLine_arrived l (.refl _))

theorem deassertLine (s : State) (l : Line) : s.Untouched (s.deassertLine l) :=
  of_mtu rfl rfl rfl rfl rfl rfl

theorem setLevel (s : State) (l : Line) (b : Bool) : s.Untouched (s.setLevel l b) := of_mtu rfl rfl rfl rfl rfl rfl

theorem complete (s : State) (p : Port) (r : Reply) : s.Untouched (s.complete p r) := withPort s p _

theorem enqueue (s : State) (x : Entry) : s.Untouched (s.enqueue x) :=
  of_eq (by simp) (by simp) (by simp) (by simp) (by simp) (s.enqueue_arrived x)

/-- A report stored changes the report table alone. -/
theorem store_figures (t : Intake) (now : Word) (r : Report) :
    (t.store now r).sites = t.sites ∧ (t.store now r).groups = t.groups := by
  unfold Intake.store
  split
  · exact ⟨rfl, rfl⟩
  · exact ⟨rfl, rfl⟩

theorem stored_figures (l : List Report) (now : Word) (t : Intake) :
    (l.foldl (fun t r => t.store now r) t).sites = t.sites ∧ (l.foldl (fun t r => t.store now r) t).groups = t.groups := by
  induction l generalizing t with
  | nil => exact ⟨rfl, rfl⟩
  | cons r l ih =>
    obtain ⟨hs, hg⟩ := ih (t.store now r)
    obtain ⟨hs', hg'⟩ := store_figures t now r
    exact ⟨hs.trans hs', hg.trans hg'⟩

/-- The requests that a block works on acceptance. -/
theorem taken (h : Taken s t) : s.Untouched t := by
  cases h with
  | nothing => exact refl s
  | reports l =>
    obtain ⟨hs, hg⟩ := stored_figures l s.mtu.runSeconds s.tiu
    exact of_groups rfl rfl rfl hs hg rfl rfl rfl rfl rfl
  | notices p => exact withPort s p _
  | attention p m n => exact withPort s p _
  | _ => exact of_groups rfl rfl rfl rfl rfl rfl rfl rfl rfl rfl

theorem accept (s : State) (p : Port) (k : Nat) (tag : Byte) (r : Request) : s.Untouched (s.accept p k tag r) := by
  unfold State.accept
  split
  · exact (taken (acceptedWork_taken ‹_›)).trans (complete _ _ _)
  · exact enqueue s _

theorem write (s : State) (p : Port) (bytes : List Byte) : s.Untouched (s.write p bytes) := by
  unfold State.write
  split
  · exact withPort s p _
  · dsimp only
    split
    · exact (withPort s p _).trans (accept _ _ _ _ _)
    · exact (withPort s p _).trans (complete _ _ _)

theorem linkReset (s : State) (p : Port) : s.Untouched (s.linkReset p) := by
  have hengine : s.Untouched { s with eng := s.eng.linkReset p } := of_groups rfl rfl rfl rfl rfl rfl rfl rfl rfl rfl
  exact hengine.trans (withPort _ p _)

theorem tickIf (s : State) (due : Bool) : s.Untouched (s.tickIf due) := by
  unfold State.tickIf
  split
  · exact act (tick s)
  · exact refl s

end State.Untouched

theorem exec_outside {i : Instr} {s t : State} (hi : Instr.outsideEngine i = true) (h : exec i s = .next t) : s.Untouched t := by
  cases i <;> simp only [exec] at h
  case tickEvent => cases h; exact .act (.tick s)
  case ppsPulse => cases h; exact .act (.ppsPulse s)
  case powerFail => cases h; exact ⟨rfl, rfl, rfl, rfl, rfl, rfl, rfl, rfl, rfl, fun _ _ => ⟨rfl, rfl, rfl, rfl⟩⟩
  case tripLineAssert l =>
    unfold execTripLineAssert at h
    split at h <;> cases h
    · exact .act (.assertLine s l)
    · exact .setLevel s l _
    · exact .setLevel s l _
  case tripLineDeassert l =>
    unfold execTripLineDeassert at h
    split at h <;> cases h
    · exact .act (.deassertLine s l)
    · exact .setLevel s l _
    · exact .setLevel s l _
  case tripQualified l =>
    unfold execTripQualified at h
    split at h
    · cases h; exact .act (.tick s)
    · split at h <;> cases h
      · exact .act (.assertLine s l)
      · exact .refl s
  case write p bytes => cases h; exact .transfer p (.write s p bytes)
  case read p part => cases h; exact .transfer p (.withPort s p _)
  case linkReset p => cases h; exact .transfer p (.linkReset s p)
  case secondMark | boundaryEvent | missingPulse | holdoverToFailed | rollupPeriodExpiry | sustainLimit | guardEnd =>
    cases h; exact .tickIf s _
  case timeSet p _ _ _ | armTrip p _ _ _ | configureGrid p _ _ _ | readActivations p _ | readCapture p _ | clearCapture p _
      | telemetry p _ _ | configureFleet p _ _ _ | setpointChanges p _ | readSetpoints p _ _ _ | readStatus p _
      | readNotices p _ | setAttention p _ _ _ =>
    cases h; exact .transfer p (.write s p _)
  all_goals cases hi

/-- Settles O50: each command outside the engine leaves what only the engine's jobs write. -/
theorem onlyJobsWriteTheBook : Obligations.OnlyJobsWriteTheBook := by
  intro i s t hi hexec
  have h := exec_outside hi hexec
  exact ⟨h.cmt, h.cgr, h.frg, h.sites, h.groups, h.setpoints, h.sequence, h.book, h.settings, h.targets⟩

end Sys2Proof.Machine
end

section
/-! PROOFS. The tick event of the Market Time Unit, and what the other blocks leave of it (1.1, 1.2, 10.1). -/
namespace Sys2Proof.Machine

/-! ### Counts of notices -/

theorem State.count_raiseTimes (s : State) (p : Port) (k m : Notice) (n : Nat) : (s.raiseTimes k n).count p m =
    if m = k ∧ k.routed p = true ∧ n ≠ 0 then min 255 (s.count p m + n) else s.count p m := by
  induction n generalizing s with
  | zero => simp [State.raiseTimes]
  | succ n ih =>
    rw [State.raiseTimes, ih, State.count_raise]
    by_cases hk : m = k ∧ k.routed p = true
    · have hsucc : m = k ∧ k.routed p = true ∧ n + 1 ≠ 0 := ⟨hk.1, hk.2, n.succ_ne_zero⟩
      rw [if_pos hk, if_pos hsucc]
      by_cases hn : n = 0
      · rw [if_neg fun h => h.2.2 hn, hn]
      · rw [if_pos ⟨hk.1, hk.2, hn⟩]
        omega
    · rw [if_neg fun h => hk ⟨h.1, h.2.1⟩, if_neg hk, if_neg fun h => hk ⟨h.1, h.2.1⟩]

theorem State.rampTick_count (s : State) (p : Port) {k : Notice} (hs : k ≠ .sustainLimit) (he : k ≠ .activationEnded) :
    s.rampTick.count p k = s.count p k := by
  unfold State.rampTick
  dsimp only
  rw [State.count_congr (State.raiseDispatchIf_port _ _ p), State.count_raiseTimes, State.count_raiseTimes, if_neg fun h => he h.1,
    if_neg fun h => hs h.1]
  exact State.count_congr (by cases p <;> rfl) k

theorem State.acuTick_port (s : State) (p : Port) : s.acuTick.port p = s.rampTick.port p := by simp [State.acuTick]

/-- Of the notices a tick event raises at the Activation Control Unit and the Dispatch Unit, only the two of activations
matter. -/
theorem State.unitsTick_count (s : State) (p : Port) {k : Notice} (hs : k ≠ .sustainLimit) (he : k ≠ .activationEnded) :
    s.acuTick.dspTick.count p k = s.count p k := by
  rw [State.count_congr (s.acuTick.dspTick_port p), State.count_congr (s.acuTick_port p), s.rampTick_count p hs he]

/-! ### The Market Time Unit at a tick event -/

theorem Mtu.judging_iff (m : Mtu) : m.judging = true ↔
    (m.timeState = .acquiring ∧ m.calendar = none) ∨ m.timeState = .locked ∨ m.timeState = .holdover := by
  unfold Mtu.judging
  cases m.timeState <;> simp

theorem State.mtuTick_of_mark {s : State} (h : s.mtu.phase = 9) :
    s.mtuTick = State.secondMark { s with mtu := { s.mtu with phase := 0 } } := by
  have hno : ¬(s.mtu.phase = 1 ∧ s.mtu.window = true) := fun hn => by omega
  unfold State.mtuTick
  rw [if_neg hno]
  exact if_pos h

theorem State.mtuTick_of_between {s : State} (h : s.mtu.phase ≠ 9) (hno : s.mtu.phase ≠ 1 ∨ s.mtu.window = false) :
    s.mtuTick = { s with mtu := { s.mtu with
      phase := s.mtu.phase + 1, window := s.mtu.window || (decide (s.mtu.phase = 8) && s.mtu.judging) } } := by
  have hno' : ¬(s.mtu.phase = 1 ∧ s.mtu.window = true) := fun hn => by
    obtain hp | hw := hno
    · exact hp hn.1
    · exact absurd hn.2 (by simp [hw])
  unfold State.mtuTick
  rw [if_neg hno']
  exact if_neg h

theorem State.mtuTick_of_missed {s : State} (h : s.mtu.phase = 1) (hw : s.mtu.window = true) :
    s.mtuTick = { s.missPulse with mtu := { s.missPulse.mtu with phase := 2 } } := by
  obtain ⟨r, n, t, hm, -⟩ := s.missPulse_cases
  have hphase : s.missPulse.mtu.phase = 1 := by rw [hm]; exact h
  have hwindow : s.missPulse.mtu.window = false := by rw [hm]
  simp [State.mtuTick, h, hw, hphase, hwindow]

@[simp] theorem State.tick_mtu (s : State) : s.tick.mtu = s.mtuTick.mtu := by simp [State.tick]
@[simp] theorem State.tick_tiu (s : State) : s.tick.tiu = s.mtuTick.tiu := by simp [State.tick]

theorem State.tick_count (s : State) (p : Port) {k : Notice} (hs : k ≠ .sustainLimit) (he : k ≠ .activationEnded) :
    s.tick.count p k = s.mtuTick.count p k := s.mtuTick.unitsTick_count p hs he

/-- The Dispatch Unit at a tick event (R145, R149). -/
theorem State.dspTick_group (s : State) {g : Nat} (hg : g < Config.numGroups) :
    s.dspTick.dsp.group g = if (s.dsp.group g).guard then
        { s.dsp.group g with guard := decide ((s.dsp.group g).remaining > 1), remaining := (s.dsp.group g).remaining - 1 }
      else s.dsp.group g := by
  simp only [State.dspTick, State.raiseDispatchIf_dsp, DispatchUnit.group]
  exact Table.get_tabulate.trans (if_pos hg)

theorem State.dspTick_unit (s : State) : s.dspTick.dsp.tickCount = s.dsp.tickCount + 1#32
    ∧ s.dspTick.dsp.setpoints = s.dsp.setpoints ∧ s.dspTick.dsp.sequence = s.dsp.sequence
    ∧ s.dspTick.dsp.dirty = s.dsp.dirty := by
  simp [State.dspTick]

/-- Second marks raise HOUSEKEEPING and ROLLUP at most: DISPATCH stands. -/
@[simp] theorem State.mtuTick_dispatch (s : State) : s.mtuTick.eng.dispatch = s.eng.dispatch := by
  by_cases hmark : s.mtu.phase = 9
  · rw [State.mtuTick_of_mark hmark, State.secondMark_eq]
  · by_cases hmiss : s.mtu.phase = 1 ∧ s.mtu.window = true
    · rw [State.mtuTick_of_missed hmiss.1 hmiss.2]
      exact congrArg Engine.dispatch s.missPulse_eng
    · rw [State.mtuTick_of_between hmark (by simpa [or_iff_not_imp_left] using hmiss)]

theorem State.tick_dsp (s : State) : s.tick.dsp = s.dspTick.dsp := by
  simp [State.tick, State.dspTick, DispatchUnit.group]

theorem exec_tickEvent {s : State} (h : s.supply = .running) : exec .tickEvent s = .next s.tick.choose :=
  congrArg _ (State.act_running s _ h)

/-- A row that names a consequence of a tick event, where the consequence comes about (log 2). -/
theorem State.tickIf_running {s : State} (h : s.supply = .running) {due : Bool} (hd : due = true) :
    s.tickIf due = s.tick.choose := by
  rw [State.tickIf, if_pos hd, State.act_running s _ h]

theorem State.guardsEnd_of_guard {s : State} {g : Nat} (hg : g < Config.numGroups) (h : (s.dsp.group g).guard = true)
    (hr : (s.dsp.group g).remaining ≤ 1) : s.guardsEnd = true :=
  List.any_eq_true.mpr ⟨g, List.mem_range.mpr hg, by simp [GroupDispatch.guardEnds, h, hr]⟩

/-- What a tick event other than the end of tick 9 leaves of time, whether or not it judges a second. -/
theorem State.mtuTick_time_of_between {s : State} (h : s.mtu.phase ≠ 9) :
    s.mtuTick.mtu.phase = s.mtu.phase + 1 ∧ s.mtuTick.mtu.runSeconds = s.mtu.runSeconds
    ∧ s.mtuTick.mtu.second = s.mtu.second ∧ s.mtuTick.mtu.clock = s.mtu.clock ∧ s.mtuTick.tiu = s.tiu := by
  by_cases hmiss : s.mtu.phase = 1 ∧ s.mtu.window = true
  · obtain ⟨r, n, t, hm, -⟩ := s.missPulse_cases
    rw [State.mtuTick_of_missed hmiss.1 hmiss.2, hm, hmiss.1]
    exact ⟨rfl, rfl, rfl, rfl, s.missPulse_tiu⟩
  · rw [State.mtuTick_of_between h (by simpa [or_iff_not_imp_left] using hmiss)]
    exact ⟨rfl, rfl, rfl, rfl, rfl⟩

/-- Settles O6: the Market Time Unit by the phase, the guards group by group, and the raise of a guard's end. -/
theorem tickEventAdvancesPhaseAndCounts : Obligations.TickEventAdvancesPhaseAndCounts := by
  intro s hs
  obtain ⟨hcount, hsetpoints, hsequence, hdirty⟩ := s.dspTick_unit
  have hend {g : Nat} (hg : g < 64) (hgu : (s.dsp.group g).guard = true) (hr : (s.dsp.group g).remaining ≤ 1) :
      s.mtuTick.acuTick.guardsEnd = true := State.guardsEnd_of_guard hg (by simpa using hgu) (by simpa using hr)
  have hdispatch {g : Nat} (hg : g < 64) (hgu : (s.dsp.group g).guard = true) (hr : (s.dsp.group g).remaining ≤ 1) :
      s.tick.eng.dispatch = s.mtuTick.acuTick.eng.dispatch.raised := by
    simp [State.tick, hend hg hgu hr]
  refine ⟨s.tick, exec_tickEvent hs, ?_, fun hp => ?_, fun hp hj => ?_, fun hp hno => ?_, ?_, fun g hg => ?_,
    fun g hg hgu hr => ⟨?_, ?_, fun hrec => ?_⟩, ?_, ?_, ?_,
    by simp, by simp, by simp, by simp, by simp, by simp, ?_, (State.Untouched.tick s).sites, (State.Untouched.tick s).groups⟩
  · rw [State.tick_mtu]
    split
    · rename_i hp
      rw [State.mtuTick_of_mark hp, State.secondMark_eq]
    · exact (State.mtuTick_time_of_between ‹_›).1
  · obtain ⟨-, hrun, hsecond, hclock, htiu⟩ := State.mtuTick_time_of_between hp
    rw [State.tick_mtu, State.tick_tiu]
    exact ⟨hrun, hsecond, hclock, htiu⟩
  · rw [State.tick_mtu, State.mtuTick_of_between (by omega) (.inl (by omega))]
    simp [hp, hj]
  · rw [State.tick_mtu, State.mtuTick_of_between hp hno]
    by_cases hopen : s.mtu.phase = 8 ∧ s.mtu.judging = true
    · rw [if_pos ⟨hopen.1, s.mtu.judging_iff.mp hopen.2⟩]
      simp [hopen]
    · rw [if_neg fun hj => hopen ⟨hj.1, s.mtu.judging_iff.mpr hj.2⟩]
      have hclosed : (decide (s.mtu.phase = 8) && s.mtu.judging) = false := by simpa using hopen
      rw [hclosed, Bool.or_false]
  · rw [s.tick_dsp, hcount]
  · rw [s.tick_dsp, s.dspTick_group hg]
  · exact congrArg _ (State.tickIf_running hs (by simp [State.guardDue, GroupDispatch.guardEnds, hg, hgu, hr]))
  · rw [hdispatch hg hgu hr]
    simp only [Trigger.raised]
    split
    · assumption
    · rfl
  · rw [hdispatch hg hgu hr]
    have hstill : s.mtuTick.rampChanges = false := by simp [State.rampChanges, hrec]
    simp [hstill]
  · rw [s.tick_dsp, hsetpoints]
  · rw [s.tick_dsp, hsequence]
  · rw [s.tick_dsp, hdirty]
  · rw [State.tick_tiu]
    by_cases hp : s.mtu.phase = 9
    · rw [State.mtuTick_of_mark hp, State.secondMark_eq]
    · rw [(State.mtuTick_time_of_between hp).2.2.2.2]

end Sys2Proof.Machine
end

section
/-! PROOFS. Second marks, judged seconds and pulses, as commands (1.1 to 1.4). -/
namespace Sys2Proof.Machine

/-! ### The second mark -/

theorem State.boundaryNext_iff (s : State) : s.boundaryNext = true ↔
    (s.mtu.running = true ∧ s.eng.settings.length ≤ s.mtu.second + 1) ∧ s.mtu.clock ≠ 4294967199 := by
  simp [State.boundaryNext, State.wraps, Config.lastInterval]

theorem State.periodEnds_iff (s : State) : s.periodEnds = true ↔ s.tiu.rollupPeriod ≤ s.tiu.periodCount + 1 := by
  simp [State.periodEnds]

/-- A second mark with its conditions written out (R2, R13, R54). -/
theorem State.secondMark_figures (s : State) :
    s.secondMark.mtu = { s.mtu with
      runSeconds := s.mtu.runSeconds + 1#32
      second := if s.mtu.running = true ∧ s.eng.settings.length ≤ s.mtu.second + 1 then 0
        else if s.mtu.running then s.mtu.second + 1 else s.mtu.second
      clock := if (s.mtu.running = true ∧ s.eng.settings.length ≤ s.mtu.second + 1) ∧ s.mtu.clock ≠ 4294967199
        then s.mtu.clock + 1 else s.mtu.clock }
    ∧ s.secondMark.eng.housekeeping =
        (if (s.mtu.running = true ∧ s.eng.settings.length ≤ s.mtu.second + 1) ∧ s.mtu.clock ≠ 4294967199
          then s.eng.housekeeping.raised else s.eng.housekeeping)
    ∧ s.secondMark.tiu = { s.tiu with
        periodCount := if s.tiu.rollupPeriod ≤ s.tiu.periodCount + 1 then 0 else s.tiu.periodCount + 1 }
    ∧ s.secondMark.eng.rollup =
        (if s.tiu.rollupPeriod ≤ s.tiu.periodCount + 1 then s.eng.rollup.raised else s.eng.rollup) := by
  rw [State.secondMark_eq]
  simp only [s.boundaryNext_iff, s.periodEnds_iff, and_true]
  by_cases hrun : s.mtu.running = true
  · by_cases hwraps : s.eng.settings.length ≤ s.mtu.second + 1 <;> simp [State.wraps, hrun, hwraps]
  · simp [hrun]

/-- A change of time state is noted at every port. -/
theorem State.enterTimeState_count (s : State) (t : TimeState) (p : Port) :
    (s.enterTimeState t).count p .timeState = min 255 (s.count p .timeState + 1) := by
  unfold State.enterTimeState
  rw [State.count_raise, if_pos ⟨rfl, rfl⟩]
  exact congrArg (fun n => min 255 (n + 1)) (State.count_congr (by cases p <;> rfl) _)

theorem State.tick_timeState_count (s : State) (p : Port) : s.tick.count p .timeState = s.mtuTick.count p .timeState :=
  s.tick_count p (k := .timeState) nofun nofun

/-- Settles O7: the tick event that ends tick 9 is a second mark, and each row of its consequences is that tick event. -/
theorem secondMarkCountsSecondsAndBoundaries : Obligations.SecondMarkCountsSecondsAndBoundaries := by
  intro s hs hphase wraps turns due marked
  let t : State := { s with mtu := { s.mtu with phase := 0 } }
  have htick : s.mtuTick = t.secondMark := State.mtuTick_of_mark hphase
  have hsecond : s.mtu.secondDue = true := by simp [Mtu.secondDue, hphase]
  have htriggers : s.tick.eng.housekeeping = t.secondMark.eng.housekeeping ∧ s.tick.eng.rollup = t.secondMark.eng.rollup := by
    simp [State.tick, htick]
  obtain ⟨hmtu, hhousekeeping, htiu, hrollup⟩ := t.secondMark_figures
  refine ⟨s.tick, ⟨?_, htriggers.1.trans hhousekeeping, ?_, htriggers.2.trans hrollup⟩,
    congrArg _ (State.tickIf_running hs hsecond), exec_tickEvent hs, fun h => ?_, fun h => ?_⟩
  · rw [State.tick_mtu, htick, hmtu]
    rfl
  · rw [State.tick_tiu, htick, htiu]
  · exact congrArg _ (State.tickIf_running hs
      (by simp [State.boundaryDue, hsecond, State.wraps, Config.lastInterval, h.1.1, h.1.2, h.2]))
  · have hperiod : s.periodDue = true := by simpa [State.periodDue, hsecond] using h
    exact congrArg _ (State.tickIf_running hs hperiod)

/-- Settles O8: each time state that judges a second, through the tick event that judges it. -/
theorem missingPulseIsJudged : Obligations.MissingPulseIsJudged := by
  intro s hs hphase hwindow
  have htick : s.mtuTick = { s.missPulse with mtu := { s.missPulse.mtu with phase := 2 } } :=
    State.mtuTick_of_missed hphase hwindow
  have hcount (p : Port) : s.tick.count p .timeState = s.missPulse.count p .timeState := by
    rw [s.tick_timeState_count, htick]
    exact State.count_congr (by cases p <;> rfl) _
  refine ⟨s.tick, congrArg _ (State.tickIf_running hs (by simp [Mtu.missDue, hphase, hwindow])), exec_tickEvent hs,
    fun ht => ⟨?_, fun p => ?_⟩, fun ht => ⟨?_, fun p => ?_⟩, fun ht hlt => ⟨?_, fun p => ?_⟩, fun ht hle => ⟨?_, ?_, fun p => ?_⟩⟩
  · rw [State.tick_mtu, htick, State.missPulse_of_acquiring ht]
  · rw [hcount, State.missPulse_of_acquiring ht]
    exact State.count_congr (by cases p <;> rfl) _
  · rw [State.tick_mtu, htick, State.missPulse_of_locked ht, State.enterTimeState_mtu]
  · rw [hcount, State.missPulse_of_locked ht, State.enterTimeState_count]
    exact congrArg (fun n => min 255 (n + 1)) (State.count_congr (by cases p <;> rfl) _)
  · rw [State.tick_mtu, htick, State.missPulse_of_holdover ht hlt]
  · rw [hcount, State.missPulse_of_holdover ht hlt]
    exact State.count_congr (by cases p <;> rfl) _
  · exact congrArg _ (State.tickIf_running hs (by simp [State.failDue, Mtu.missDue, hphase, hwindow, ht, hle]))
  · rw [State.tick_mtu, htick, State.missPulse_of_limit ht hle, State.enterTimeState_mtu]
  · rw [hcount, State.missPulse_of_limit ht hle, State.enterTimeState_count]
    exact congrArg (fun n => min 255 (n + 1)) (State.count_congr (by cases p <;> rfl) _)

/-! ### Pulses -/

/-- A state with another Market Time Unit. -/
def State.withMtu (s : State) (m : Mtu) : State := { s with mtu := m }

theorem State.withMtu_raiseTimes (s : State) (m : Mtu) (k : Notice) (n : Nat) :
    (s.withMtu m).raiseTimes k n = (s.raiseTimes k n).withMtu m := by
  induction n generalizing s with
  | zero => rfl
  | succ n ih => exact ih (s.raise k)

theorem State.withMtu_raiseDispatchIf (s : State) (m : Mtu) (b : Bool) :
    (s.withMtu m).raiseDispatchIf b = (s.raiseDispatchIf b).withMtu m := by
  cases b <;> rfl

theorem State.withMtu_trip (s : State) (m : Mtu) (l : Line) (p : Nat) : (s.withMtu m).trip l p = (s.trip l p).withMtu m := by
  have heng : (s.withMtu m).eng = s.eng := rfl
  unfold State.trip
  rw [heng]
  split
  · rfl
  · rfl

theorem State.withMtu_qualify (s : State) (m : Mtu) (l : Line) : (s.withMtu m).qualify l = (s.qualify l).withMtu m := by
  have hacu : (s.withMtu m).acu = s.acu := rfl
  unfold State.qualify
  dsimp only
  rw [hacu]
  cases (s.acu.line l).armed with
  | none => rfl
  | some p => exact State.withMtu_trip { s with acu := s.acu.withLine l _ } m l p

theorem State.withMtu_lineTick (s : State) (m : Mtu) (l : Line) : (s.withMtu m).lineTick l = (s.lineTick l).withMtu m := by
  have hacu : (s.withMtu m).acu = s.acu := rfl
  unfold State.lineTick
  dsimp only
  rw [hacu, s.withMtu_qualify m l]
  split
  · rfl
  · split
    · rfl
    · rfl

theorem State.withMtu_rampTick (s : State) (m : Mtu) : (s.withMtu m).rampTick = s.rampTick.withMtu m := by
  unfold State.rampTick
  dsimp only
  rw [← State.withMtu_raiseDispatchIf, ← State.withMtu_raiseTimes, ← State.withMtu_raiseTimes]
  rfl

/-- A tick event outside the Market Time Unit reads nothing of it. -/
theorem State.withMtu_unitsTick (s : State) (m : Mtu) :
    (s.withMtu m).acuTick.dspTick = s.acuTick.dspTick.withMtu m := by
  have hacu : (s.withMtu m).acuTick = s.acuTick.withMtu m := by
    rw [State.acuTick, State.withMtu_rampTick, State.withMtu_lineTick, State.withMtu_lineTick, State.acuTick]
  rw [hacu]
  unfold State.dspTick
  rw [← State.withMtu_raiseDispatchIf]
  rfl

/-- Settles O9: a pulse in a time state that ignores it, and the three cases of a pending calendar. -/
theorem startingPulseStartsCalendar : Obligations.StartingPulseStartsCalendar := by
  intro s hs
  have hexec : exec .ppsPulse s = .next s.ppsPulse.choose := congrArg _ (State.act_running s _ hs)
  refine ⟨fun h => ?_, fun n ht hn => ?_⟩
  · rw [hexec]
    obtain h | h := h <;> simp [State.ppsPulse, h]
  have hpulse : s.ppsPulse = s.startingPulse n := by simp [State.ppsPulse, ht, hn]
  intro started due counted rollup starts
  have hdue : s.periodEnds = true ↔ due := s.periodEnds_iff
  have hpass (origin : Nat) (housekeeping : Trigger) (hlive : ¬(n.restart = true ∧ n.interval < s.mtu.clock))
      (horigin : (if n.restart then s.mtu.origin else n.interval) = origin)
      (hhousekeeping : (if n.restart = true ∧ n.interval = s.mtu.clock then s.eng.housekeeping
        else s.eng.housekeeping.raised) = housekeeping) : starts origin housekeeping := by
    refine ⟨s.startingPulse n, by rw [hexec, hpulse], ?_⟩
    rw [State.startingPulse_eq hlive, horigin, hhousekeeping]
    exact ⟨rfl, congrArg (fun n => { s.tiu with periodCount := n }) (if_congr hdue rfl rfl), rfl, rfl,
      congrArg (fun t => { s.eng with housekeeping := housekeeping, rollup := t }) (if_congr hdue rfl rfl)⟩
  refine ⟨fun hr => ?_, fun hr hlt => ?_, fun hr heq => ?_, fun hr hlt => ?_⟩
  · exact hpass _ _ (by simp [hr]) (by simp [hr]) (by simp [hr])
  · exact hpass _ _ (by omega) (by simp [hr]) (if_neg (by omega))
  · exact hpass _ _ (by omega) (by simp [hr]) (if_pos ⟨hr, heq⟩)
  · refine ⟨s.startingPulse n, by rw [hexec, hpulse], ?_⟩
    rw [State.startingPulse_of_past ⟨hr, hlt⟩]
    refine ⟨rfl, rfl, rfl, rfl, rfl, fun p => ?_⟩
    rw [State.enterTimeState_count]
    exact congrArg (fun n => min 255 (n + 1)) (State.count_congr (by cases p <;> rfl) _)

/-! ### A good pulse -/

theorem State.countGood_judged (s : State)
    (h : s.mtu.timeState = .acquiring ∨ s.mtu.timeState = .locked ∨ s.mtu.timeState = .holdover) :
    s.countGood.mtu = { s.mtu with
      timeState := if s.mtu.timeState ≠ .locked ∧ 3 ≤ s.mtu.goodRun + 1 then .locked else s.mtu.timeState
      goodRun := if s.mtu.timeState ≠ .locked ∧ 3 ≤ s.mtu.goodRun + 1 then 3
        else if s.mtu.timeState = .locked then s.mtu.goodRun else s.mtu.goodRun + 1 }
    ∧ ∀ p, s.countGood.count p .timeState =
        if s.mtu.timeState ≠ .locked ∧ 3 ≤ s.mtu.goodRun + 1 then min 255 (s.count p .timeState + 1)
        else s.count p .timeState := by
  by_cases hl : s.mtu.timeState = .locked
  · have hno : ¬(s.mtu.timeState ≠ .locked ∧ 3 ≤ s.mtu.goodRun + 1) := fun h => h.1 hl
    rw [State.countGood_of_locked hl]
    simp only [if_neg hno, if_pos hl, implies_true, and_true]
  have hrun : s.mtu.timeState = .acquiring ∨ s.mtu.timeState = .holdover := by
    obtain h | h | h := h
    · exact .inl h
    · exact absurd h hl
    · exact .inr h
  by_cases h3 : 3 ≤ s.mtu.goodRun + 1
  · rw [State.countGood_of_third hrun h3]
    simp only [if_pos (And.intro hl h3)]
    refine ⟨State.enterTimeState_mtu _ _, fun p => ?_⟩
    rw [State.enterTimeState_count]
    exact congrArg (fun n => min 255 (n + 1)) (State.count_congr (by cases p <;> rfl) _)
  · have hno : ¬(s.mtu.timeState ≠ .locked ∧ 3 ≤ s.mtu.goodRun + 1) := fun h => h3 h.2
    rw [State.countGood_of_run hrun (by omega)]
    simp only [if_neg hno, if_neg hl, true_and]
    exact fun p => State.count_congr (by cases p <;> rfl) _

/-- The moment of a good pulse: tick 0 restarts with the window closed. -/
def State.restarted (s : State) : State := { s with mtu := { s.mtu with window := false, phase := 0 } }

theorem State.goodPulse_of_mark {s : State} (h : s.mtu.phase = 9) :
    s.goodPulse = s.restarted.secondMark.acuTick.dspTick.countGood := congrArg State.countGood (if_pos h)

theorem State.goodPulse_of_between {s : State} (h : s.mtu.phase ≠ 9) : s.goodPulse = s.restarted.countGood :=
  congrArg State.countGood (if_neg h)

/-- The second mark of a good pulse and that of the tick event it stands for differ in the window alone. -/
theorem State.restarted_secondMark {s : State} (h : s.mtu.phase = 9) :
    s.restarted.secondMark = s.mtuTick.withMtu s.restarted.secondMark.mtu := by
  rw [State.mtuTick_of_mark h, State.secondMark_eq, State.secondMark_eq]
  rfl

/-- A good pulse in tick 9 works every block as the tick event at the same moment does. -/
theorem State.restarted_units {s : State} (h : s.mtu.phase = 9) :
    s.restarted.secondMark.acuTick.dspTick = s.tick.withMtu s.restarted.secondMark.mtu := by
  rw [State.restarted_secondMark h, State.withMtu_unitsTick]
  rfl

/-- Settles O10: the stray pulse, and the good pulse as the tick event's own work but for the run. -/
theorem pulseIsGoodOrStray : Obligations.PulseIsGoodOrStray := by
  intro s hs hjudging
  have hexec : exec .ppsPulse s = .next s.ppsPulse.choose := congrArg _ (State.act_running s _ hs)
  have hstate : s.mtu.timeState = .acquiring ∨ s.mtu.timeState = .locked ∨ s.mtu.timeState = .holdover :=
    hjudging.imp_left And.left
  have hrunning : s.mtu.running = true := by
    obtain ⟨ht, hc⟩ | ht | ht := hjudging <;> simp [Mtu.running, *]
  have hpulse : s.ppsPulse = if s.mtu.window then s.goodPulse else s.strayPulse := by
    obtain ⟨ht, hc⟩ | ht | ht := hjudging <;> simp [State.ppsPulse, *]
  refine ⟨fun hw => ?_, fun hw => ⟨s.goodPulse, by rw [hexec, hpulse, if_pos hw], ?_⟩⟩
  · have hstray : s.ppsPulse = s.strayPulse := by rw [hpulse, hw]; rfl
    rw [hexec, hstray]
    by_cases ht : s.mtu.timeState = .locked
    · simp [State.strayPulse, saturate, ht]
    · simp [State.strayPulse, saturate, ht]
  intro locks wraps turns due judged
  by_cases hphase : s.mtu.phase = 9
  · rw [State.goodPulse_of_mark hphase]
    have hunits := State.restarted_units hphase
    have hrestarted : s.restarted.mtu.running = true := hrunning
    obtain ⟨hmtu, hhousekeeping, htiu, hrollup⟩ := s.restarted.secondMark_figures
    simp only [hrestarted, true_and, if_true] at hmtu hhousekeeping
    have htriggers : s.restarted.secondMark.acuTick.dspTick.eng.housekeeping = s.restarted.secondMark.eng.housekeeping
        ∧ s.restarted.secondMark.acuTick.dspTick.eng.rollup = s.restarted.secondMark.eng.rollup := by simp
    generalize hu : s.restarted.secondMark.acuTick.dspTick = u at hunits htriggers ⊢
    have hum : u.mtu = s.restarted.secondMark.mtu := by simp [← hu]
    have huc (p : Port) : u.count p .timeState = s.count p .timeState := by
      rw [← hu, State.unitsTick_count _ p (k := .timeState) nofun nofun]
      exact State.count_congr (by rw [State.secondMark_eq]; cases p <;> rfl) _
    have hjudge : u.mtu.timeState = s.mtu.timeState ∧ u.mtu.goodRun = s.mtu.goodRun := by rw [hum, hmtu]; exact ⟨rfl, rfl⟩
    obtain ⟨hjudged, hcounts⟩ := u.countGood_judged (by rw [hjudge.1]; exact hstate)
    rw [hjudge.1, hjudge.2] at hjudged
    simp only [hjudge.1, hjudge.2, huc] at hcounts
    have hunit : u.acu = s.tick.acu ∧ u.dsp = s.tick.dsp ∧ u.tiu = s.tick.tiu ∧ u.eng = s.tick.eng := by
      rw [hunits]
      exact ⟨rfl, rfl, rfl, rfl⟩
    obtain ⟨hacu, hdsp, htiu', heng⟩ := hunit
    have hticked : u.countGood.dsp = s.dspTick.dsp := (u.countGood_dsp.trans hdsp).trans s.tick_dsp
    have hcounted : u.tiu = s.restarted.secondMark.tiu := by simp [← hu]
    obtain ⟨htickCount, hsetpoints, -, -⟩ := s.dspTick_unit
    refine ⟨hcounts, fun h => absurd hphase h, fun _ => ⟨?_, ?_, ?_, ?_, ?_, fun g hg => ?_, ?_, ?_, ?_, ?_, ?_, s.tick,
      exec_tickEvent hs, u.countGood_acu.trans hacu, u.countGood_dsp.trans hdsp, u.countGood_tiu.trans htiu',
      u.countGood_eng.trans heng⟩⟩
    · rw [hjudged, hum, hmtu]
      rfl
    · rw [u.countGood_eng, htriggers.1, hhousekeeping]
      rfl
    · rw [u.countGood_tiu, hcounted, htiu]
      rfl
    · rw [u.countGood_eng, htriggers.2, hrollup]
      rfl
    · rw [hticked, htickCount]
    · rw [hticked, s.dspTick_group hg]
    · rw [hticked, hsetpoints]
    · rw [u.countGood_cmt, hunits]
      exact s.tick_cmt
    · rw [u.countGood_cgr, hunits]
      exact s.tick_cgr
    · rw [u.countGood_frg, hunits]
      exact s.tick_frg
    · rw [u.countGood_dvu, hunits]
      exact s.tick_dvu
  · rw [State.goodPulse_of_between hphase]
    obtain ⟨hjudged, hcounts⟩ := s.restarted.countGood_judged hstate
    have hsame (p : Port) : s.restarted.count p .timeState = s.count p .timeState := State.count_congr (by cases p <;> rfl) _
    refine ⟨fun p => (hcounts p).trans (by rw [hsame]; rfl), fun _ => ⟨hjudged, ?_, ?_, ?_, ?_⟩, fun h => absurd h hphase⟩
    · exact s.restarted.countGood_eng
    · exact s.restarted.countGood_tiu
    · exact s.restarted.countGood_acu
    · exact s.restarted.countGood_dsp

end Sys2Proof.Machine
end

section
/-! PROOFS. The trip lines: their edges, and qualification at a tick event (9.4, 6.3). -/
namespace Sys2Proof.Machine

/-! ### Qualification, by whether the line is armed -/

theorem Acu.withLine_withLine (a : Acu) (l : Line) (x y : LineState) : (a.withLine l x).withLine l y = a.withLine l y := by
  cases l <;> rfl

theorem Acu.withLine_line (a : Acu) (l : Line) : a.withLine l (a.line l) = a := by
  cases l <;> rfl

theorem State.qualify_of_unarmed {s : State} {l : Line} (h : (s.acu.line l).armed = none) :
    s.qualify l = { s with acu := s.acu.withLine l { s.acu.line l with
      count := 0, latched := true, unarmed := min 255 ((s.acu.line l).unarmed + 1) } } := by
  simp [State.qualify, h, saturate]

theorem State.qualify_of_armed {s : State} {l : Line} {p : Nat} (h : (s.acu.line l).armed = some p) :
    s.qualify l = State.trip { s with acu := s.acu.withLine l { s.acu.line l with count := 0, latched := true } } l p := by
  simp [State.qualify, h]

theorem State.trip_of_new {s : State} {l : Line} (h : s.eng.activation.any (ActEntry.isTrip l) = false) (p : Nat) :
    s.trip l p = s.joinActivation (.trip ⟨l, p, Line.fraction l⟩) :=
  if_neg (by simp [h])

theorem State.trip_of_queued {s : State} {l : Line} (h : s.eng.activation.any (ActEntry.isTrip l) = true) (p : Nat) :
    s.trip l p = { s with eng := { s.eng with activationMerges := min 255 (s.eng.activationMerges + 1) } } :=
  if_pos h

/-! ### Edges -/

theorem State.assertLine_of_asserted {s : State} {l : Line} (h : (s.acu.line l).asserted = true) : s.assertLine l = s :=
  if_pos h

theorem State.assertLine_of_waiting {s : State} {l : Line} (h : (s.acu.line l).asserted = false)
    (hq : s.acu.qualification ≠ 0 ∨ (s.acu.line l).latched = true) : s.assertLine l = s.setLevel l true := by
  have hno : ¬(s.acu.qualification = 0 ∧ (s.acu.line l).latched = false) := fun hn => by
    obtain hq | hq := hq
    · exact hq hn.1
    · exact absurd hn.2 (by simp [hq])
  exact (if_neg (by simp [h])).trans (if_neg hno)

theorem State.assertLine_of_qualifying {s : State} {l : Line} (h : (s.acu.line l).asserted = false)
    (hq : s.acu.qualification = 0) (hl : (s.acu.line l).latched = false) : s.assertLine l = (s.setLevel l true).qualify l :=
  (if_neg (by simp [h])).trans (if_pos ⟨hq, hl⟩)

theorem exec_tripLineAssert {s : State} (h : s.supply = .running) (l : Line) :
    exec (.tripLineAssert l) s = .next (s.assertLine l).choose := by
  change execTripLineAssert l s = _
  unfold execTripLineAssert
  rw [h]
  exact congrArg _ (State.act_running s _ h)

theorem exec_tripLineDeassert {s : State} (h : s.supply = .running) (l : Line) :
    exec (.tripLineDeassert l) s = .next (s.deassertLine l).choose := by
  change execTripLineDeassert l s = _
  unfold execTripLineDeassert
  rw [h]
  exact congrArg _ (State.act_running s _ h)

/-- TRIP_QUALIFIED where an assertion qualifies the line at once. -/
theorem exec_tripQualified_of_edge {s : State} {l : Line} (h : s.supply = .running) (ha : (s.acu.line l).asserted = false)
    (hq : s.acu.qualification = 0) (hl : (s.acu.line l).latched = false) :
    exec (.tripQualified l) s = .next (s.assertLine l).choose := by
  have htick : s.acu.qualifies l = false := by simp [Acu.qualifies, ha]
  have honce : s.acu.qualifiesAtOnce l = true := by simp [Acu.qualifiesAtOnce, ha, hq, hl]
  change execTripQualified l s = _
  unfold execTripQualified
  rw [htick, honce]
  exact congrArg Host.Outcome.next (State.act_running s (fun s => s.assertLine l) h)

/-- Settles O12: each edge through the equations of an assertion and a deassertion. -/
theorem tripLineEdges : Obligations.TripLineEdges := by
  intro s l x line
  have hlevel : (s.setLevel l true).acu.line l = { x with asserted := true } := Acu.line_withLine_self _ _ _
  refine ⟨fun hs ha => ?_, fun hs ha hq => ?_, fun hs ha hq hl harmed => ?_, fun p hs ha hq hl harmed => ?_, fun hs => ?_,
    fun hs => ?_⟩
  · rw [exec_tripLineAssert hs, State.assertLine_of_asserted ha]
  · rw [exec_tripLineAssert hs, State.assertLine_of_waiting ha hq]
    rfl
  · refine ⟨?_, (exec_tripQualified_of_edge hs ha hq hl).trans (exec_tripLineAssert hs l).symm⟩
    rw [exec_tripLineAssert hs, State.assertLine_of_qualifying ha hq hl, State.qualify_of_unarmed (by rw [hlevel]; exact harmed),
      hlevel]
    exact congrArg (fun a => Host.Outcome.next (State.choose { s with acu := a })) (Acu.withLine_withLine _ _ _ _)
  · have hqualify : s.assertLine l = State.trip (line { x with asserted := true, count := 0, latched := true }) l p := by
      rw [State.assertLine_of_qualifying ha hq hl, State.qualify_of_armed (by rw [hlevel]; exact harmed), hlevel]
      exact congrArg (fun a => State.trip { s with acu := a } l p) (Acu.withLine_withLine _ _ _ _)
    refine ⟨s.assertLine l, exec_tripLineAssert hs l, exec_tripQualified_of_edge hs ha hq hl, ?_, fun hnew => ?_, fun hqueued => ?_⟩
    · rw [hqualify, State.trip_acu]
    · rw [hqualify, State.trip_of_new (s := line _) hnew]
      have hjoined := State.joinActivation_engine (line { x with asserted := true, count := 0, latched := true })
        (.trip ⟨l, p, Line.fraction l⟩)
      refine ⟨hjoined.2.2.2.1.trans ?_, hjoined.2.2.2.2.1⟩
      exact congrArg (fun f => s.eng.activation ++ [.trip ⟨l, p, f⟩]) (by cases l <;> rfl)
    · rw [hqualify, State.trip_of_queued (s := line _) hqueued]
  · exact exec_tripLineDeassert hs l
  · cases hsupply : s.supply with
    | running => exact absurd hsupply hs
    | held | off => exact ⟨by simp [exec, execTripLineAssert, hsupply, State.setLevel, line, x],
        by simp [exec, execTripLineDeassert, hsupply, State.setLevel, line, x]⟩

/-! ### Qualification at a tick event -/

/-- A line at a tick event, from the qualification ticks in force (R140). -/
def LineState.tick (x : LineState) (qualification : Nat) : LineState :=
  if x.asserted && !x.latched then
    if qualification ≤ x.count + 1 then
      if x.armed.isSome then { x with count := 0, latched := true }
      else { x with count := 0, latched := true, unarmed := min 255 (x.unarmed + 1) }
    else { x with count := x.count + 1 }
  else x

theorem Acu.qualifies_iff (a : Acu) (l : Line) : a.qualifies l = true ↔
    (a.line l).asserted = true ∧ (a.line l).latched = false ∧ a.qualification ≤ (a.line l).count + 1 := by
  simp [Acu.qualifies, and_assoc]

theorem State.lineTick_of_qualifies {s : State} {l : Line} (h : s.acu.qualifies l = true) : s.lineTick l = s.qualify l :=
  if_pos h

theorem State.lineTick_of_not_qualifies {s : State} {l : Line} (h : s.acu.qualifies l = false) : s.lineTick l =
    { s with acu := s.acu.withLine l ((s.acu.line l).tick s.acu.qualification) } := by
  have hno : ¬((s.acu.line l).asserted = true ∧ (s.acu.line l).latched = false
      ∧ s.acu.qualification ≤ (s.acu.line l).count + 1) := fun hn => by simp [(s.acu.qualifies_iff l).mpr hn] at h
  refine (if_neg (by simp [h])).trans ?_
  by_cases hwaits : ((s.acu.line l).asserted && !(s.acu.line l).latched) = true
  · have hlow : ¬s.acu.qualification ≤ (s.acu.line l).count + 1 := fun hle => hno (by simp_all)
    rw [if_pos hwaits, LineState.tick, if_pos hwaits, if_neg hlow]
  · rw [if_neg hwaits, LineState.tick, if_neg hwaits, Acu.withLine_line]

/-- What a tick event writes of a line in the Activation Control Unit. -/
theorem State.lineTick_acu (s : State) (l : Line) :
    (s.lineTick l).acu = s.acu.withLine l ((s.acu.line l).tick s.acu.qualification) := by
  cases h : s.acu.qualifies l with
  | false => rw [State.lineTick_of_not_qualifies h]
  | true =>
    obtain ⟨ha, hl, hq⟩ := (s.acu.qualifies_iff l).mp h
    have hwaits : ((s.acu.line l).asserted && !(s.acu.line l).latched) = true := by simp [ha, hl]
    rw [State.lineTick_of_qualifies h, State.qualify_acu, LineState.tick, if_pos hwaits, if_pos hq]
    cases harmed : (s.acu.line l).armed with
    | none => simp [saturate, harmed]
    | some _ => simp [harmed]

theorem State.lineTick_line (s : State) (l m : Line) :
    (s.lineTick l).acu.line m = if m = l then (s.acu.line l).tick s.acu.qualification else s.acu.line m := by
  rw [State.lineTick_acu, Acu.line_withLine]

/-- The trips of a line that wait in the ACTIVATION class. -/
def State.trips (s : State) (l : Line) : List ActEntry := s.eng.activation.filter (ActEntry.isTrip l)

theorem State.trips_any (s : State) (l : Line) : s.eng.activation.any (ActEntry.isTrip l) = !(s.trips l).isEmpty := by
  rw [State.trips, Bool.eq_iff_iff, List.any_eq_true, Bool.not_eq_true', List.isEmpty_eq_false_iff, ne_eq, List.filter_eq_nil_iff]
  simp

theorem State.trips_congr {s t : State} (h : t.eng.activation = s.eng.activation) (l : Line) : t.trips l = s.trips l := by
  rw [State.trips, State.trips, h]

/-- A trip worked: a line's own trips, and another's. -/
theorem State.trip_trips (s : State) (l m : Line) (p : Nat) : (s.trip l p).trips m =
    if m = l ∧ s.eng.activation.any (ActEntry.isTrip l) = false then [.trip ⟨l, p, Line.fraction l⟩] else s.trips m := by
  cases hany : s.eng.activation.any (ActEntry.isTrip l) with
  | true =>
    rw [State.trip_of_queued hany, if_neg (by simp)]
    rfl
  | false =>
    rw [State.trip_of_new hany, State.trips, (s.joinActivation_engine _).2.2.2.1, List.filter_append]
    by_cases hm : m = l
    · subst hm
      have hnone : s.eng.activation.filter (ActEntry.isTrip m) = [] := by
        simpa [State.trips] using (s.trips_any m).symm.trans hany
      simp [hnone, ActEntry.isTrip]
    · have hother : (l == m) = false := by simpa using fun h => hm h.symm
      simp [hm, State.trips, ActEntry.isTrip, hother]

/-- The waiting trips of a line after its tick (R83, R140). -/
def LineState.joins (x : LineState) (l : Line) (qualification : Nat) (waiting : List ActEntry) : List ActEntry :=
  match x.armed with
  | some p =>
    if x.asserted = true ∧ x.latched = false ∧ qualification ≤ x.count + 1 ∧ waiting = [] then [.trip ⟨l, p, Line.fraction l⟩]
    else waiting
  | none => waiting

theorem State.lineTick_of_unarmed {s : State} {l : Line} (h : (s.acu.line l).armed = none) :
    (s.lineTick l).eng = s.eng := by
  cases hq : s.acu.qualifies l with
  | false => rw [State.lineTick_of_not_qualifies hq]
  | true => rw [State.lineTick_of_qualifies hq, State.qualify_of_unarmed h]

theorem State.lineTick_trips (s : State) (l m : Line) : (s.lineTick l).trips m =
    if m = l then (s.acu.line l).joins l s.acu.qualification (s.trips l) else s.trips m := by
  cases harmed : (s.acu.line l).armed with
  | none =>
    rw [State.trips_congr (congrArg Engine.activation (State.lineTick_of_unarmed harmed))]
    split
    · subst_vars
      simp [LineState.joins, harmed]
    · rfl
  | some p =>
    cases hq : s.acu.qualifies l with
    | false =>
      have hno : ¬((s.acu.line l).asserted = true ∧ (s.acu.line l).latched = false
          ∧ s.acu.qualification ≤ (s.acu.line l).count + 1 ∧ s.trips l = []) := fun h => by
        simp [(s.acu.qualifies_iff l).mpr ⟨h.1, h.2.1, h.2.2.1⟩] at hq
      rw [State.trips_congr (s := s) (by rw [State.lineTick_of_not_qualifies hq])]
      split
      · subst_vars
        simp only [LineState.joins, harmed, if_neg hno]
      · rfl
    | true =>
      obtain ⟨ha, hl, hle⟩ := (s.acu.qualifies_iff l).mp hq
      have hempty : s.eng.activation.any (ActEntry.isTrip l) = false ↔ s.trips l = [] := by simp [s.trips_any l]
      rw [State.lineTick_of_qualifies hq, State.qualify_of_armed harmed, State.trip_trips]
      by_cases hm : m = l
      · subst hm
        simp only [LineState.joins, harmed, ha, hl, hle, hempty, true_and, if_true]
        rfl
      · rw [if_neg fun h => hm h.1, if_neg hm]
        rfl

/-- A trip that merges into the line's queued one (R83). -/
theorem State.trip_merges {s : State} {l : Line} (h : s.eng.activation.any (ActEntry.isTrip l) = true) (p : Nat) :
    (s.trip l p).eng.activationMerges = min 255 (s.eng.activationMerges + 1) := by
  rw [State.trip_of_queued h]

theorem State.lineTick_merges {s : State} {l : Line} {p : Nat} (hq : s.acu.qualifies l = true)
    (harmed : (s.acu.line l).armed = some p) (hany : s.eng.activation.any (ActEntry.isTrip l) = true) :
    (s.lineTick l).eng.activationMerges = min 255 (s.eng.activationMerges + 1) := by
  rw [State.lineTick_of_qualifies hq, State.qualify_of_armed harmed]
  exact State.trip_merges (by exact hany) p

theorem State.lineTick_engine_of_not_qualifies {s : State} {l : Line} (h : s.acu.qualifies l = false) :
    (s.lineTick l).eng = s.eng := by
  rw [State.lineTick_of_not_qualifies h]

/-! ### The two lines one after the other -/

theorem State.rampTick_line (s : State) (l : Line) : s.rampTick.acu.line l = s.acu.line l := by
  cases l <;> simp [State.rampTick, Acu.line]

theorem State.rampTick_qualification (s : State) : s.rampTick.acu.qualification = s.acu.qualification := by
  simp [State.rampTick]

theorem State.lineTick_qualification (s : State) (l : Line) : (s.lineTick l).acu.qualification = s.acu.qualification := by
  rw [State.lineTick_acu, (Acu.withLine_frame _ _ _).2.2.2]

/-- A line at the Activation Control Unit's tick (R140). -/
theorem State.acuTick_line (s : State) (l : Line) : s.acuTick.acu.line l = (s.acu.line l).tick s.acu.qualification := by
  unfold State.acuTick
  rw [State.lineTick_line, State.lineTick_line, State.lineTick_line, s.rampTick.lineTick_qualification,
    s.rampTick_qualification, s.rampTick_line, s.rampTick_line]
  cases l <;> rfl

/-- The trips that wait after the Activation Control Unit's tick. -/
theorem State.acuTick_trips (s : State) (l : Line) :
    s.acuTick.trips l = (s.acu.line l).joins l s.acu.qualification (s.trips l) := by
  have hramp (m : Line) : s.rampTick.trips m = s.trips m := State.trips_congr s.rampTick_engine.2.2.2.1 m
  unfold State.acuTick
  rw [State.lineTick_trips, State.lineTick_trips, State.lineTick_trips, State.lineTick_line, s.rampTick.lineTick_qualification,
    s.rampTick_qualification, s.rampTick_line, s.rampTick_line, hramp, hramp]
  cases l <;> rfl

theorem Acu.qualifies_congr {a b : Acu} {l : Line} (h : b.line l = a.line l) (hq : b.qualification = a.qualification) :
    b.qualifies l = a.qualifies l := by
  rw [Acu.qualifies, Acu.qualifies, h, hq]

theorem State.rampTick_qualifies (s : State) (l : Line) : s.rampTick.acu.qualifies l = s.acu.qualifies l :=
  Acu.qualifies_congr (s.rampTick_line l) s.rampTick_qualification

/-- A line's qualification after another line's tick. -/
theorem State.lineTick_qualifies_of_ne (s : State) {l m : Line} (h : m ≠ l) :
    (s.lineTick l).acu.qualifies m = s.acu.qualifies m :=
  Acu.qualifies_congr ((s.lineTick_line l m).trans (if_neg h)) (s.lineTick_qualification l)

/-- A merge at the Activation Control Unit's tick, where no other line qualifies. -/
theorem State.acuTick_merges {s : State} {l : Line} {p : Nat} (hq : s.acu.qualifies l = true)
    (harmed : (s.acu.line l).armed = some p) (hany : s.eng.activation.any (ActEntry.isTrip l) = true)
    (hothers : ∀ m, m ≠ l → s.acu.qualifies m = false) :
    s.acuTick.eng.activationMerges = min 255 (s.eng.activationMerges + 1) := by
  have hactivation : s.rampTick.eng.activation = s.eng.activation := s.rampTick_engine.2.2.2.1
  have hmerges : s.rampTick.eng.activationMerges = s.eng.activationMerges := s.rampTick_engine.2.2.2.2.1
  have hramp : (s.rampTick.lineTick l).eng.activationMerges = min 255 (s.eng.activationMerges + 1) := by
    rw [State.lineTick_merges (by rw [s.rampTick_qualifies, hq]) (by rw [s.rampTick_line, harmed]) (by rw [hactivation, hany]),
      hmerges]
  unfold State.acuTick
  cases l with
  | uft =>
    rw [State.lineTick_engine_of_not_qualifies, hramp]
    rw [State.lineTick_qualifies_of_ne _ (l := .uft) (m := .oft) nofun, s.rampTick_qualifies, hothers .oft nofun]
  | oft =>
    have hother : (s.rampTick.lineTick .uft).eng = s.rampTick.eng :=
      State.lineTick_engine_of_not_qualifies (by rw [s.rampTick_qualifies, hothers .uft nofun])
    rw [State.lineTick_merges (p := p), hother, hmerges]
    · rw [State.lineTick_qualifies_of_ne _ (l := .uft) (m := .oft) nofun, s.rampTick_qualifies, hq]
    · rw [State.lineTick_line, if_neg nofun, s.rampTick_line, harmed]
    · rw [hother, hactivation, hany]

@[simp] theorem State.mtuTick_merges (s : State) : s.mtuTick.eng.activationMerges = s.eng.activationMerges := by
  by_cases hmark : s.mtu.phase = 9
  · rw [State.mtuTick_of_mark hmark, State.secondMark_eq]
  · by_cases hmiss : s.mtu.phase = 1 ∧ s.mtu.window = true
    · rw [State.mtuTick_of_missed hmiss.1 hmiss.2]
      exact congrArg Engine.activationMerges s.missPulse_eng
    · rw [State.mtuTick_of_between hmark (by simpa [or_iff_not_imp_left] using hmiss)]

/-- Settles O13: the line's own tick, with the trips that wait after both lines' ticks. -/
theorem tripLineQualifiesAtTick : Obligations.TripLineQualifiesAtTick := by
  intro s l hs x
  have hline : s.tick.acu.line l = x.tick s.acu.qualification := by
    simp [State.tick, State.acuTick_line, x]
  have htrips : s.tick.trips l = x.joins l s.acu.qualification (s.trips l) := by
    have hdelivered : s.tick.trips l = s.mtuTick.acuTick.trips l := State.trips_congr s.mtuTick.acuTick.dspTick_engine.2.2.2.1 l
    rw [hdelivered, State.acuTick_trips, s.mtuTick_acu, State.trips_congr s.mtuTick_activation]
  refine ⟨fun ha hl hq => ?_, fun ha hl hq => ⟨s.tick, exec_tickEvent hs, ?_⟩, fun h => ⟨s.tick, exec_tickEvent hs, ?_⟩⟩
  · have hqualifies : s.acu.qualifies l = true := (s.acu.qualifies_iff l).mpr ⟨ha, hl, hq⟩
    refine ⟨s.tick, ?_, exec_tickEvent hs, fun harmed => ⟨?_, ?_⟩, fun p harmed => ⟨?_, ?_, fun hany hothers => ?_⟩⟩
    · change execTripQualified l s = _
      unfold execTripQualified
      rw [hqualifies]
      exact congrArg Host.Outcome.next (State.act_running s State.tick hs)
    · rw [hline]
      simp [LineState.tick, ha, hl, hq, harmed]
    · refine htrips.trans ?_
      simp [LineState.joins, harmed, State.trips]
    · rw [hline]
      simp [LineState.tick, ha, hl, hq, harmed]
    · refine htrips.trans ?_
      have hempty : s.trips l = [] ↔ ¬s.eng.activation.any (ActEntry.isTrip l) = true := by simp [s.trips_any l]
      simp only [LineState.joins, harmed, ha, hl, hq, hempty, true_and]
      rw [ite_not]
      exact congrArg (fun f => if s.eng.activation.any (ActEntry.isTrip l) = true then s.trips l else [.trip ⟨l, p, f⟩])
        (by cases l <;> rfl)
    · have hmerged : s.tick.eng.activationMerges = s.mtuTick.acuTick.eng.activationMerges :=
        s.mtuTick.acuTick.dspTick_engine.2.2.2.2.1
      rw [hmerged, State.acuTick_merges (p := p) (l := l), s.mtuTick_merges]
      · rw [s.mtuTick_acu, hqualifies]
      · rw [s.mtuTick_acu, harmed]
      · rw [s.mtuTick_activation, hany]
      · rw [s.mtuTick_acu]
        exact hothers
  · rw [hline]
    simp [LineState.tick, ha, hl, Nat.not_le.mpr hq]
  · rw [hline]
    obtain h | h := h <;> simp [LineState.tick, h]

end Sys2Proof.Machine
end

section
/-! PROOFS. The activation records at a tick event: account, sustain, limit, step and removal (9.3). -/
namespace Sys2Proof.Machine

/-! ### Lists with one entry a product -/

section Products
variable {l : List Activation} (hl : l.Pairwise (fun a b => a.product < b.product))
include hl

theorem find_product_eq {r : Activation} (hr : r ∈ l) : l.find? (fun x => x.product == r.product) = some r := by
  induction l with
  | nil => nomatch hr
  | cons a l ih =>
    obtain ⟨hhead, htail⟩ := List.pairwise_cons.mp hl
    obtain rfl | hmem := List.mem_cons.mp hr
    · simp
    · have hne : (a.product == r.product) = false := by simpa using Nat.ne_of_lt (hhead r hmem)
      rw [List.find?_cons, hne]
      exact ih htail hmem

theorem eq_of_product_eq {r x : Activation} (hr : r ∈ l) (hx : x ∈ l) (h : x.product = r.product) : x = r := by
  have hfind := find_product_eq hl hx
  rw [h, find_product_eq hl hr] at hfind
  exact (Option.some.inj hfind).symm

/-- The records after each is changed and some are dropped: a product's own. -/
theorem find_product_step (f : Activation → Activation) (keep : Activation → Bool) (hf : ∀ r, (f r).product = r.product)
    {r : Activation} (hr : r ∈ l) : ((l.map f).filter keep).find? (fun x => x.product == r.product) =
      if keep (f r) then some (f r) else none := by
  have hstepped : ((l.map f).filter keep).Pairwise (fun a b => a.product < b.product) :=
    (hl.map f fun a b hab => by rw [hf, hf]; exact hab).filter keep
  split
  · rename_i hkeep
    have hmem : f r ∈ (l.map f).filter keep := List.mem_filter.mpr ⟨List.mem_map_of_mem hr, hkeep⟩
    rw [← hf r]
    exact find_product_eq hstepped hmem
  · rename_i hkeep
    refine List.find?_eq_none.mpr fun x hx hproduct => hkeep ?_
    obtain ⟨hmem, hx⟩ := List.mem_filter.mp hx
    obtain ⟨y, hy, rfl⟩ := List.mem_map.mp hmem
    have hsame : y.product = r.product := by simpa [hf] using hproduct
    rw [← eq_of_product_eq hl hr hy hsame]
    exact hx

end Products

theorem get_accounts_of_none (f : Activation → Account → Account) (l : List Activation) (t : Table Account) {p : Nat}
    (h : ∀ r ∈ l, r.product ≠ p) :
    accountOf (l.foldl (fun t r => Table.modify {} t r.product (f r)) t) p = accountOf t p := by
  induction l generalizing t with
  | nil => rfl
  | cons a l ih =>
    rw [List.foldl_cons, ih _ fun r hr => h r (List.mem_cons_of_mem a hr)]
    exact (Table.get_modify _).trans (if_neg (h a List.mem_cons_self).symm)

/-- Each record's account takes its record's figures. -/
theorem get_accounts_step (f : Activation → Account → Account) {l : List Activation} (t : Table Account)
    (hl : l.Pairwise (fun a b => a.product < b.product)) {r : Activation} (hr : r ∈ l) :
    accountOf (l.foldl (fun t r => Table.modify {} t r.product (f r)) t) r.product = f r (accountOf t r.product) := by
  induction l generalizing t with
  | nil => nomatch hr
  | cons a l ih =>
    obtain ⟨hhead, htail⟩ := List.pairwise_cons.mp hl
    rw [List.foldl_cons]
    obtain rfl | hmem := List.mem_cons.mp hr
    · rw [get_accounts_of_none f l _ fun x hx => (hhead x hx).ne']
      exact (Table.get_modify _).trans (if_pos rfl)
    · rw [ih _ htail hmem]
      exact congrArg (f r) ((Table.get_modify _).trans (if_neg (hhead r hmem).ne'))

/-! ### One record at a tick -/

theorem Activation.counted_sustain (r : Activation) :
    r.counted.sustain = if r.current = 0 then r.sustain else min 4294967295 (r.sustain + 1) := by
  unfold Activation.counted
  split <;> rfl

/-- Whether a record reaches the sustain limit, written out (R137). -/
theorem Activation.atLimit_iff (r : Activation) (p : Product) : r.atLimit p = true ↔
    r.target ≠ 0 ∧ p.sustain * 600 ≤ if r.current = 0 then r.sustain else min 4294967295 (r.sustain + 1) := by
  rw [Activation.atLimit, decide_eq_true_iff, r.counted_sustain, sustainTicks]

theorem moveToward_eq (current target : Int) (step : Nat) : moveToward current target step =
    if current ≤ target then current + min (step : Int) (target - current) else current - min (step : Int) (current - target) := by
  unfold moveToward
  dsimp only
  split <;> omega

/-- A record's tick with its conditions written out (R135). -/
theorem Activation.tick_eq (r : Activation) (p : Product) : r.tick p = { r with
    target := if r.atLimit p then 0 else r.target
    current := moveToward r.current (if r.atLimit p then 0 else r.target) (rampStep p)
    sustain := if r.current = 0 then r.sustain else min 4294967295 (r.sustain + 1)
    cause := if r.atLimit p then some .sustain else r.cause } := by
  rw [← r.counted_sustain]
  unfold Activation.tick Activation.tested Activation.counted
  by_cases hlimit : r.atLimit p = true <;> by_cases hzero : r.current = 0 <;> simp [hlimit, hzero]

/-! ### The records and accounts of a tick event -/

/-- The activation records of a tick event (R135). -/
theorem State.tick_records (s : State) : s.tick.acu.records =
    (s.acu.records.map (fun r => r.tick (s.product r.product))).filter (fun r => !r.finished) := by
  simp [State.tick, State.rampTick_records, State.product]

theorem State.rampTick_accounts_eq (s : State) : s.rampTick.acu.accounts =
    s.acu.records.foldl (fun t r => Table.modify {} t r.product (fun x => x.tick r.current)) s.acu.accounts := by
  simp [State.rampTick]

/-- The accounts of a tick event (R135 step a). -/
theorem State.tick_accounts (s : State) : s.tick.acu.accounts =
    s.acu.records.foldl (fun t r => Table.modify {} t r.product (fun x => x.tick r.current)) s.acu.accounts := by
  simp [State.tick, State.acuTick, State.rampTick_accounts_eq]

theorem Acu.record_none_iff (a : Acu) (p : Nat) : a.record p = none ↔ ∀ r ∈ a.records, r.product ≠ p := by
  simp [Acu.record]

/-- A product's record after a tick event. -/
theorem State.tick_record {s : State} (h : s.ActivationInv) {r : Activation} (hr : r ∈ s.acu.records) :
    s.tick.acu.record r.product =
      if (r.tick (s.product r.product)).finished then none else some (r.tick (s.product r.product)) := by
  rw [Acu.record, s.tick_records, find_product_step h.ordered (fun r => r.tick (s.product r.product)) (fun r => !r.finished)
    (fun r => r.tick_product _) hr]
  cases (r.tick (s.product r.product)).finished <;> rfl

theorem State.tick_record_none {s : State} {p : Nat} (h : s.acu.record p = none) : s.tick.acu.record p = none := by
  rw [Acu.record_none_iff] at h ⊢
  rw [s.tick_records]
  intro x hx
  obtain ⟨hmem, -⟩ := List.mem_filter.mp hx
  obtain ⟨y, hy, rfl⟩ := List.mem_map.mp hmem
  rw [y.tick_product]
  exact h y hy

/-! ### Notices and the raise of a tick event -/

theorem State.enterTimeState_count_of_ne (s : State) (t : TimeState) (p : Port) {k : Notice} (h : k ≠ .timeState) :
    (s.enterTimeState t).count p k = s.count p k := by
  unfold State.enterTimeState
  rw [State.count_raise, if_neg fun hn => h hn.1]
  exact State.count_congr (by cases p <;> rfl) _

theorem State.missPulse_count (s : State) (p : Port) {k : Notice} (h : k ≠ .timeState) : s.missPulse.count p k = s.count p k := by
  cases ht : s.mtu.timeState with
  | unset => rw [State.missPulse_of_unjudged (.inl ht)]; exact State.count_congr (by cases p <;> rfl) _
  | failed => rw [State.missPulse_of_unjudged (.inr ht)]; exact State.count_congr (by cases p <;> rfl) _
  | acquiring => rw [State.missPulse_of_acquiring ht]; exact State.count_congr (by cases p <;> rfl) _
  | locked =>
    rw [State.missPulse_of_locked ht, State.enterTimeState_count_of_ne _ _ _ h]
    exact State.count_congr (by cases p <;> rfl) _
  | holdover =>
    by_cases hlt : s.mtu.holdover + 1 < s.eng.settings.holdoverLimit
    · rw [State.missPulse_of_holdover ht hlt]
      exact State.count_congr (by cases p <;> rfl) _
    · rw [State.missPulse_of_limit ht (Nat.not_lt.mp hlt), State.enterTimeState_count_of_ne _ _ _ h]
      exact State.count_congr (by cases p <;> rfl) _

/-- A notice kind other than TIME_STATE is not the Market Time Unit's to raise. -/
theorem State.mtuTick_count (s : State) (p : Port) {k : Notice} (h : k ≠ .timeState) : s.mtuTick.count p k = s.count p k := by
  by_cases hmark : s.mtu.phase = 9
  · rw [State.mtuTick_of_mark hmark, State.count_congr (State.secondMark_port _ p)]
    exact State.count_congr (by cases p <;> rfl) _
  · by_cases hmiss : s.mtu.phase = 1 ∧ s.mtu.window = true
    · rw [State.mtuTick_of_missed hmiss.1 hmiss.2, ← s.missPulse_count p h]
      exact State.count_congr (by cases p <;> rfl) _
    · rw [State.mtuTick_of_between hmark (by simpa [or_iff_not_imp_left] using hmiss)]
      exact State.count_congr (by cases p <;> rfl) _

theorem State.rampTick_notices (s : State) :
    s.rampTick.count .grid .sustainLimit =
      (if (s.acu.records.filter (fun r => r.atLimit (s.product r.product))).length ≠ 0 then
        min 255 (s.count .grid .sustainLimit + (s.acu.records.filter (fun r => r.atLimit (s.product r.product))).length)
      else s.count .grid .sustainLimit)
    ∧ s.rampTick.count .grid .activationEnded =
      (if (s.acu.records.filter (fun r => (r.tick (s.product r.product)).finished)).length ≠ 0 then
        min 255 (s.count .grid .activationEnded
          + (s.acu.records.filter (fun r => (r.tick (s.product r.product)).finished)).length)
      else s.count .grid .activationEnded) := by
  have hfinished : ((s.acu.records.map (fun r => r.tick (s.product r.product))).filter (·.finished)).length
      = (s.acu.records.filter (fun r => (r.tick (s.product r.product)).finished)).length := by
    rw [List.filter_map, List.length_map]
    rfl
  have hstand (a : Acu) (k : Notice) : State.count { s with acu := a } .grid k = s.count .grid k := rfl
  unfold State.rampTick
  dsimp only
  rw [hfinished, State.count_congr (State.raiseDispatchIf_port _ _ .grid), State.count_congr (State.raiseDispatchIf_port _ _ .grid)]
  simp only [State.count_raiseTimes, hstand, reduceCtorEq, false_and, if_false, true_and]
  exact ⟨if_congr ⟨And.right, fun h => ⟨rfl, h⟩⟩ rfl rfl, if_congr ⟨And.right, fun h => ⟨rfl, h⟩⟩ rfl rfl⟩

/-- The notices of activations at a tick event, at the grid port. -/
theorem State.tick_notices (s : State) :
    s.tick.count .grid .sustainLimit =
      (if (s.acu.records.filter (fun r => r.atLimit (s.product r.product))).length ≠ 0 then
        min 255 (s.count .grid .sustainLimit + (s.acu.records.filter (fun r => r.atLimit (s.product r.product))).length)
      else s.count .grid .sustainLimit)
    ∧ s.tick.count .grid .activationEnded =
      (if (s.acu.records.filter (fun r => (r.tick (s.product r.product)).finished)).length ≠ 0 then
        min 255 (s.count .grid .activationEnded
          + (s.acu.records.filter (fun r => (r.tick (s.product r.product)).finished)).length)
      else s.count .grid .activationEnded) := by
  have hunits (k : Notice) : s.tick.count .grid k = s.mtuTick.rampTick.count .grid k :=
    (State.count_congr (s.mtuTick.acuTick.dspTick_port .grid) k).trans (State.count_congr (s.mtuTick.acuTick_port .grid) k)
  obtain ⟨hsustain, hended⟩ := s.mtuTick.rampTick_notices
  rw [s.mtuTick_count .grid (k := .sustainLimit) nofun, s.mtuTick_acu] at hsustain
  rw [s.mtuTick_count .grid (k := .activationEnded) nofun, s.mtuTick_acu] at hended
  have hproduct (p : Nat) : s.mtuTick.product p = s.product p := by simp [State.product]
  simp only [hproduct] at hsustain hended
  exact ⟨(hunits _).trans hsustain, (hunits _).trans hended⟩

/-- Settles O14: the records and accounts product by product, then the notices and the raise. -/
theorem tickStepsEveryActivation : Obligations.TickStepsEveryActivation := by
  intro s hs hinv
  refine ⟨s.tick, exec_tickEvent hs, fun p hp => ⟨State.tick_record_none hp, ?_⟩, fun p r hp => ?_, ?_⟩
  · rw [s.tick_accounts]
    exact get_accounts_of_none _ _ _ ((s.acu.record_none_iff p).mp hp)
  · obtain ⟨hr, rfl⟩ := Acu.record_mem hp
    have haccount : accountOf s.tick.acu.accounts r.product = (accountOf s.acu.accounts r.product).tick r.current := by
      rw [s.tick_accounts]
      exact get_accounts_step (fun r x => x.tick r.current) _ hinv.ordered hr
    intro f step sustain ends target current
    have hends : r.atLimit (s.product r.product) = true ↔ ends := r.atLimit_iff _
    refine ⟨by rw [haccount]; rfl, ?_, ?_⟩
    · rw [haccount]
      unfold Account.tick
      split <;> simp
    · have htarget : (if r.atLimit (s.product r.product) = true then 0 else r.target) = target := if_congr hends rfl rfl
      have hcause : (if r.atLimit (s.product r.product) = true then some .sustain else r.cause)
          = if ends then some EndCause.sustain else r.cause := if_congr hends rfl rfl
      have hcurrent : moveToward r.current target (rampStep (s.product r.product)) = current := moveToward_eq _ _ _
      rw [State.tick_record hinv hr, r.tick_eq, htarget, hcause, hcurrent]
      exact if_congr (by simp [Activation.finished]) rfl rfl
  · intro removed changed
    have hnone {r : Activation} (hr : r ∈ s.acu.records) : s.tick.acu.record r.product = none
        ↔ (r.tick (s.product r.product)).finished = true := by
      rw [State.tick_record hinv hr]
      split <;> simp_all
    have hremoved : removed = (s.acu.records.filter (fun r => (r.tick (s.product r.product)).finished)).length :=
      congrArg List.length (List.filter_congr fun r hr => Bool.eq_iff_iff.mpr (by simp [hnone hr]))
    have hchanged : changed = s.rampChanges := by
      refine Bool.eq_iff_iff.mpr ((List.any_eq_true.trans ?_).trans List.any_eq_true.symm)
      refine exists_congr fun r => and_congr_right fun hr => ?_
      rw [State.tick_record hinv hr]
      cases (r.tick (s.product r.product)).finished <;> simp
    refine ⟨?_, fun hquiet => ?_⟩
    · rw [s.tick_notices.2, ← hremoved, ite_not]
    · have hguards : s.mtuTick.acuTick.guardsEnd = false := by
        simpa [State.guardsEnd, Config.numGroups] using hquiet
      have hramp : s.mtuTick.rampChanges = s.rampChanges := by
        unfold State.rampChanges State.product
        rw [s.mtuTick_acu, s.mtuTick_cmt]
      rw [hchanged, ← hramp]
      simp [State.tick, hguards]

/-! ### The sustain limit -/

/-- A fraction moved toward 0 loses a step of its magnitude. -/
theorem natAbs_moveToward_zero (x : Int) (step : Nat) : (moveToward x 0 step).natAbs = x.natAbs - step := by
  rw [moveToward_eq]
  split <;> omega

theorem State.sustainDue_iff {s : State} (h : s.ActivationInv) {r : Activation} (hr : r ∈ s.acu.records) :
    s.sustainDue r.product = r.atLimit (s.product r.product) := by
  refine Bool.eq_iff_iff.mpr ⟨fun hdue => ?_, fun hlimit => ?_⟩
  · obtain ⟨x, hx, hmatch⟩ := List.any_eq_true.mp hdue
    obtain ⟨hproduct, hlimit⟩ := Bool.and_eq_true_iff.mp hmatch
    rw [eq_of_product_eq h.ordered hr hx (by simpa using hproduct)] at hlimit
    exact hlimit
  · exact List.any_eq_true.mpr ⟨r, hr, by simp [hlimit]⟩

/-- Settles O15: the record's own tick from the limit on, and the notice for each record due. -/
theorem sustainLimitEndsActivation : Obligations.SustainLimitEndsActivation := by
  intro s p r hs hinv hp sustain htarget hle
  obtain ⟨hr, rfl⟩ := Acu.record_mem hp
  have hlimit : r.atLimit (s.product r.product) = true := (r.atLimit_iff _).mpr ⟨htarget, hle⟩
  have hdue : s.sustainDue r.product = true := (State.sustainDue_iff hinv hr).trans hlimit
  have hticked : r.tick (s.product r.product) = { r with
      target := 0, current := moveToward r.current 0 (rampStep (s.product r.product)), sustain := sustain
      cause := some .sustain } := by
    rw [r.tick_eq, if_pos hlimit, if_pos hlimit]
  have habs := natAbs_moveToward_zero r.current (rampStep (s.product r.product))
  have hrecord := State.tick_record hinv hr
  rw [hticked] at hrecord
  refine ⟨s.tick, congrArg _ (State.tickIf_running hs hdue), exec_tickEvent hs, fun n hn => ?_, ?_, ?_⟩
  · rw [hrecord] at hn
    split at hn
    · cases hn
    · cases hn
      exact ⟨rfl, rfl, rfl, habs⟩
  · rw [hrecord]
    simp only [Activation.finished, and_true, decide_eq_true_eq, ite_eq_left_iff, reduceCtorEq, imp_false, not_not]
    omega
  · have hlength : (s.acu.records.filter (fun x => s.sustainDue x.product)).length
        = (s.acu.records.filter (fun x => x.atLimit (s.product x.product))).length :=
      congrArg List.length (List.filter_congr fun x hx => State.sustainDue_iff hinv hx)
    have hsome : (s.acu.records.filter (fun x => x.atLimit (s.product x.product))).length ≠ 0 :=
      List.length_pos_of_mem (List.mem_filter.mpr ⟨hr, hlimit⟩) |>.ne'
    rw [s.tick_notices.1, if_pos hsome, hlength]

end Sys2Proof.Machine
end

section
/-! PROOFS. The requests that a block takes on acceptance: TIME_SET, the grid and fleet settings, the readings, the reports and
the port's own requests. -/
namespace Sys2Proof.Machine

/-- Settles O11: the checks of TIME_SET in order, then the pending calendar. -/
theorem timeSetChecksAndRecords : Obligations.TimeSetChecksAndRecords := by
  intro s k tag n sec hs hk r settable inRange
  have row {u : State} {c : Status}
      (ha : timeSetWork n sec (s.taken .market k tag r) = (u.taken .market k tag r, c, .empty)) :
      exec (.timeSet .market tag n sec) s = .next (u.answered .market k tag r c .empty).choose :=
    exec_accepted s .market k tag r hs hk rfl rfl (congrArg some ha)
  have refused {c : Status} (hc : timeSetCheck n.toNat sec.toNat s = some c) :
      exec (.timeSet .market tag n sec) s = .next (s.answered .market k tag r c .empty).choose := by
    refine row ?_
    have hcheck : timeSetCheck n.toNat sec.toNat (s.taken .market k tag r) = some c := hc
    unfold timeSetWork
    rw [hcheck]
    rfl
  refine ⟨fun hset => refused ?_, fun hset hrange => refused ?_, fun hset hrange => row ?_⟩
  · exact if_pos ⟨fun h => hset (.inl h), fun h => hset (.inr h)⟩
  · have hsettable : ¬(s.mtu.timeState ≠ .unset ∧ s.mtu.timeState ≠ .failed) := fun h => hset.elim h.1 h.2
    refine (if_neg hsettable).trans ?_
    by_cases hsec : s.eng.settings.length ≤ sec.toNat
    · exact if_pos hsec
    refine (if_neg hsec).trans ?_
    by_cases hlast : n.toNat > Config.lastInterval
    · exact if_pos hlast
    refine (if_neg hlast).trans (if_pos ?_)
    by_contra hback
    exact hrange ⟨Nat.not_le.mp hsec, Nat.not_lt.mp hlast, fun hf => Nat.not_lt.mp fun hlt => hback ⟨hf, hlt⟩⟩
  · obtain ⟨hsec, hlast, hback⟩ := hrange
    have hcheck : timeSetCheck n.toNat sec.toNat (s.taken .market k tag r) = none :=
      (if_neg fun h => hset.elim h.1 h.2).trans ((if_neg (Nat.not_le.mpr hsec)).trans ((if_neg (Nat.not_lt.mpr hlast)).trans
        (if_neg fun h => Nat.not_lt.mpr (hback h.1) h.2)))
    unfold timeSetWork
    rw [hcheck]
    rfl

/-- Settles O18: ARM_TRIP by the line and product bytes, and CONFIGURE_GRID. -/
theorem gridSettingsAreTaken : Obligations.GridSettingsAreTaken := by
  intro s k tag hs hk
  have row {line product : Byte} {u : State} {c : Status} {b : ReplyBody}
      (ha : armTripWork line product (s.taken .grid k tag (.armTrip line product))
        = (u.taken .grid k tag (.armTrip line product), c, b)) :
      exec (.armTrip .grid tag line product) s = .next (u.answered .grid k tag (.armTrip line product) c b).choose :=
    exec_accepted s .grid k tag (.armTrip line product) hs hk rfl rfl (congrArg some ha)
  refine ⟨fun l line product hline => ?_, fun line product hline => row ?_, fun guard qualification => ?_⟩
  · intro r run fits lineState armed
    have hl : lineOf line = some l := by cases l <;> subst hline <;> rfl
    have hfits : fits = (s.product product.toNat).direction.fits l := by
      cases hd : (s.product product.toNat).direction <;> cases l <;> simp [fits, hd, Direction.fits]
    have work : armTripWork line product (s.taken .grid k tag r) =
        if product = Config.noneCode then
          (State.taken { s with acu := s.acu.withLine l (lineState none) } .grid k tag r, .ok, .armed l none)
        else if product.toNat > 7 then refuse (s.taken .grid k tag r) .range
        else if !(s.product product.toNat).direction.fits l then refuse (s.taken .grid k tag r) .range
        else (State.taken { s with acu := s.acu.withLine l (lineState (some product.toNat)) } .grid k tag r, .ok,
          .armed l (some product.toNat)) := by
      unfold armTripWork
      rw [hl]
      rfl
    refine ⟨fun hp => row (work.trans (if_pos hp)), fun hp hlt => row ((work.trans (if_neg hp)).trans (if_pos hlt)),
      fun hle hf => row ?_, fun hle hf => row ?_⟩
    · have hp : product ≠ 255#8 := by rintro rfl; exact absurd hle (by decide)
      exact ((work.trans (if_neg hp)).trans (if_neg (by omega))).trans (if_pos (by rw [← hfits, hf]; rfl))
    · have hp : product ≠ 255#8 := by rintro rfl; exact absurd hle (by decide)
      exact ((work.trans (if_neg hp)).trans (if_neg (by omega))).trans (if_neg (by rw [← hfits, hf]; nofun))
  · have hnone : lineOf line = none := by
      have h0 : line ≠ 0#8 := by rintro rfl; exact absurd hline (by decide)
      have h1 : line ≠ 1#8 := by rintro rfl; exact absurd hline (by decide)
      simp [lineOf, h0, h1]
    unfold armTripWork
    rw [hnone]
    rfl
  · exact exec_accepted s .grid k tag (.configureGrid guard qualification) hs hk rfl rfl rfl

/-- Settles O27. -/
theorem readingsAreFormedAtAcceptance : Obligations.ReadingsAreFormedAtAcceptance := by
  intro s k tag hs
  refine ⟨fun p hp hk => ?_, fun hk => ⟨?_, ?_⟩, fun hk => ?_⟩
  · cases p with
    | fleet => exact absurd rfl hp
    | market => exact exec_accepted s .market k tag .readActivations hs hk rfl rfl rfl
    | grid => exact exec_accepted s .grid k tag .readActivations hs hk rfl rfl rfl
  · exact exec_accepted s .grid k tag .readCapture hs hk rfl rfl rfl
  · exact exec_accepted s .grid k tag .clearCapture hs hk rfl rfl rfl
  · intro row
    refine ⟨?_, fun first count => ?_⟩
    · have hmore : (!(s.dsp.dirty.drop 32).isEmpty) = decide (32 < s.dsp.dirty.length) := by
        rw [Bool.eq_iff_iff]
        simp
      rw [← hmore]
      exact exec_accepted s .fleet k tag .setpointChanges hs hk rfl rfl rfl
    · intro r
      refine ⟨fun hout => ?_, fun hf hlo hhi => ?_⟩
      · exact exec_accepted s .fleet k tag r hs hk rfl rfl (congrArg some (if_pos (by omega)))
      · exact exec_accepted s .fleet k tag r hs hk rfl rfl (congrArg some (if_neg (by omega)))

/-- The slot that a request takes leaves its port's notices. -/
theorem State.taken_notices (s : State) (p : Port) (k : Nat) (tag : Byte) (r : Request) :
    ((s.taken p k tag r).port p).notices = (s.port p).notices := by
  rw [State.taken, State.port_withPort_self]
  rfl

theorem noticeLevel_code (n : Notice) : noticeLevel n.code = match n with
    | .timeState => 6
    | .trip => 7
    | .shortfall => 6
    | .deficit => 5
    | .sustainLimit => 5
    | .dispatchShort => 5
    | .activationEnded => 4
    | .setpointsChanged => 4
    | .holdExpired => 3
    | .settlement => 2
    | .staleSites => 2
    | .resetDone => 1 := by
  cases n <;> rfl

theorem Notice.code_surjective (c : Nat) (h : c < 12) : ∃ n : Notice, n.code = c := by
  interval_cases c
  exacts [⟨.timeState, rfl⟩, ⟨.trip, rfl⟩, ⟨.shortfall, rfl⟩, ⟨.deficit, rfl⟩, ⟨.sustainLimit, rfl⟩, ⟨.dispatchShort, rfl⟩,
    ⟨.activationEnded, rfl⟩, ⟨.setpointsChanged, rfl⟩, ⟨.holdExpired, rfl⟩, ⟨.settlement, rfl⟩, ⟨.staleSites, rfl⟩,
    ⟨.resetDone, rfl⟩]

theorem Notice.code_lt (n : Notice) : n.code < 12 := by cases n <;> decide

/-- A port asks for attention for a reply, or for a pending notice that its mask and threshold let through (R171). -/
theorem PortState.wantsAttention_iff (x : PortState) : x.wantsAttention = true ↔ x.replies ≠ []
    ∨ ∃ n : Notice, 0 < Table.get 0 x.notices n.code ∧ x.mask.getLsbD n.code = true ∧ x.threshold ≤ noticeLevel n.code := by
  have hpending : (x.pendingNotices.any (fun e => x.mask.getLsbD e.1 && decide (x.threshold ≤ noticeLevel e.1))) = true
      ↔ ∃ c, c < 12 ∧ 0 < Table.get 0 x.notices c ∧ x.mask.getLsbD c = true ∧ x.threshold ≤ noticeLevel c := by
    simp [PortState.pendingNotices, List.any_eq_true]
  rw [PortState.wantsAttention, Bool.or_eq_true, hpending]
  refine or_congr (by simp) ⟨fun ⟨c, hc, h⟩ => ?_, fun ⟨n, h⟩ => ⟨n.code, n.code_lt, h⟩⟩
  obtain ⟨n, rfl⟩ := Notice.code_surjective c hc
  exact ⟨n, h⟩

theorem presentable_of_any {p : Port} {r : Request} (hm : r.presentable .market = true) (hg : r.presentable .grid = true)
    (hf : r.presentable .fleet = true) : r.presentable p = true := by
  cases p with
  | market => exact hm
  | grid => exact hg
  | fleet => exact hf

/-- A change of a port that a slot's taking does not see. -/
theorem taken_withPort (s : State) (p : Port) (k : Nat) (tag : Byte) (r : Request) (f : PortState → PortState)
    (hf : f ((s.port p).takeSlot k (requestFrame tag r)) = (f (s.port p)).takeSlot k (requestFrame tag r)) :
    (s.taken p k tag r).withPort p (f ((s.taken p k tag r).port p)) = (s.withPort p (f (s.port p))).taken p k tag r := by
  rw [State.taken, State.taken, State.port_withPort_self, State.port_withPort_self, State.withPort_withPort,
    State.withPort_withPort, hf]

/-- Settles O26: the three requests at acceptance, and ATTN. -/
theorem portRequestsAndAttention : Obligations.PortRequestsAndAttention := by
  refine ⟨fun s p k tag hs hk => ⟨?_, ?_, fun mask threshold => ?_⟩, fun s p => ?_⟩
  · have hreport : (s.taken p k tag .readStatus).statusReport = s.statusReport := by
      simp only [State.statusReport, State.taken, State.withPort_cause, State.withPort_mtu, State.withPort_eng, State.withPort_dvu]
    have hclass : s.eng.classInProgress = match s.eng.job with
        | none => 0
        | some (.order _) => 1
        | some (.trip _) => 1
        | some (.dispatch _ _) => 2
        | some (.rollover _) => 3
        | some (.rollup _) => 4
        | some (.fleet _) => 5
        | some (.book _) => 6
        | some (.admission _) => 7 := by
      unfold Engine.classInProgress
      split <;> simp_all
    refine exec_accepted s p k tag .readStatus hs hk (presentable_of_any rfl rfl rfl) rfl (congrArg some ?_)
    rw [readStatusWork, hreport, State.statusReport, hclass] <;> rfl
  · have hnotices := s.taken_notices p k tag .readNotices
    refine exec_accepted s p k tag .readNotices hs hk (presentable_of_any rfl rfl rfl) rfl (congrArg some ?_)
    unfold readNoticesWork PortState.pendingNotices
    rw [hnotices]
    exact congrArg (·, _, _) (taken_withPort s p k tag .readNotices (fun x => { x with notices := [] }) rfl)
  · have hmask : (mask.extractLsb' 0 12 : BitVec 12) = mask.setWidth 12 := by
      exact (BitVec.setWidth_eq_extractLsb' (by decide)).symm
    intro m n
    refine exec_accepted s p k tag (.setAttention mask threshold) hs hk (presentable_of_any rfl rfl rfl) rfl (congrArg some ?_)
    unfold setAttentionWork
    rw [← hmask]
    exact congrArg (·, _, _) (taken_withPort s p k tag (.setAttention mask threshold)
      (fun x => { x with mask := m, threshold := n }) rfl)
  · rw [State.attn, Bool.and_eq_true, PortState.wantsAttention_iff]
    refine and_congr beq_iff_eq (or_congr Iff.rfl (exists_congr fun n => ?_))
    rw [noticeLevel_code]
    rfl

/-! ### Reports -/

theorem Intake.store_raw (t : Intake) (now : Word) (r : Report) (i : Nat) : Table.get none (t.store now r).raw i =
    if r.site.toNat = i ∧ i ≤ 4095 then some (storedReport r now) else Table.get none t.raw i := by
  unfold Intake.store
  split
  · rename_i hsite
    rw [Table.get_set]
    refine if_congr ⟨fun h => ⟨h.symm, ?_⟩, fun h => h.1.symm⟩ rfl rfl
    subst h
    exact Nat.le_of_lt_succ hsite
  · rename_i hsite
    refine (if_neg fun h => hsite ?_).symm
    rw [h.1]
    exact Nat.lt_succ_of_le h.2

/-- Reports change the report table alone. -/
theorem Intake.foldl_store (now : Word) (l : List Report) (t : Intake) :
    l.foldl (fun t r => t.store now r) t = { t with raw := (l.foldl (fun t r => t.store now r) t).raw } := by
  refine List.foldlRecOn (motive := fun u : Intake => u = { t with raw := u.raw }) l _ rfl fun u hu r _ => ?_
  unfold Intake.store
  split
  · rw [hu]
  · exact hu

/-- A site's stored report is the last of its reports, if it has one and exists. -/
theorem Intake.foldl_store_raw (now : Word) (l : List Report) (t : Intake) (i : Nat) :
    Table.get none (l.foldl (fun t r => t.store now r) t).raw i = match l.reverse.find? (fun r => r.site.toNat == i) with
      | some r => if i ≤ 4095 then some (storedReport r now) else Table.get none t.raw i
      | none => Table.get none t.raw i := by
  induction l using List.reverseRecOn with
  | nil => rfl
  | append_singleton l r ih =>
    rw [List.foldl_append, List.foldl_cons, List.foldl_nil, Intake.store_raw, List.reverse_append, List.reverse_singleton,
      List.singleton_append, List.find?_cons]
    by_cases hsite : r.site.toNat = i
    · have hyes : (r.site.toNat == i) = true := by simpa using hsite
      rw [hyes]
      by_cases hi : i ≤ 4095
      · exact (if_pos ⟨hsite, hi⟩).trans (if_pos hi).symm
      · refine ((if_neg fun h => hi h.2).trans ?_).trans (if_neg hi).symm
        rw [ih]
        split
        · exact if_neg hi
        · rfl
    · have hno : (r.site.toNat == i) = false := by simpa using hsite
      rw [hno, if_neg fun h => hsite h.1]
      exact ih

/-- Settles O28: the reports stored, and the fleet settings. -/
theorem telemetryAndFleetSettingsAreStored : Obligations.TelemetryAndFleetSettingsAreStored := by
  intro s k tag hs hk
  refine ⟨fun reports hlo hhi => ?_, fun limit period => ?_⟩
  · intro stored
    refine ⟨(reports.foldl (fun t r => t.store s.mtu.runSeconds r) s.tiu).raw, ?_, fun i => ?_⟩
    · refine exec_accepted s .fleet k tag (.telemetry reports) hs hk
        (Bool.and_eq_true_iff.mpr ⟨rfl, decide_eq_true ⟨hlo, hhi⟩⟩) rfl (congrArg some ?_)
      have hstored : (reports.filter (fun r => decide (r.site.toNat < Config.numSites))).length = stored :=
        congrArg List.length (List.filter_congr fun r _ => decide_eq_decide.mpr Nat.lt_succ_iff)
      have htable := Intake.foldl_store s.mtu.runSeconds reports s.tiu
      unfold telemetryWork
      dsimp only
      rw [hstored]
      exact congrArg (fun x => (State.taken (State.raiseRollup { s with tiu := x }) .fleet k tag (.telemetry reports), Status.ok,
        ReplyBody.telemetry stored (reports.length - stored))) htable
    · exact Intake.foldl_store_raw _ _ _ _
  · intro l p t
    refine exec_accepted s .fleet k tag (.configureFleet limit period) hs hk rfl rfl (congrArg some ?_)
    have hlimit : clampNat 1 600 limit.toNat = l := rfl
    have hperiod : clampNat 1 60 period.toNat = p := rfl
    unfold configureFleetWork
    rw [hlimit, hperiod]
    by_cases hsame : l = s.tiu.staleLimit
    · rw [if_pos hsame]
      exact congrArg (·, _, _) (if_neg (not_not.mpr hsame))
    · rw [if_neg hsame]
      exact congrArg (·, _, _) (if_pos hsame)

end Sys2Proof.Machine
end

section
/-! PROOFS. Frames: the check of a WRITE's bytes accepts exactly the frames of permitted requests (12.2, 12.4). -/
namespace Sys2Proof.Machine

/-! ### Fields back into bytes -/

@[simp] theorem halfBytes_half (a b : Byte) : halfBytes (half a b) = [a, b] := by
  have hlow : (half a b).extractLsb' 0 8 = a := by
    apply BitVec.eq_of_getLsbD_eq
    intro i hi
    simp only [half, BitVec.getLsbD_extractLsb', BitVec.getLsbD_append]
    simp [hi]
  have hhigh : (half a b).extractLsb' 8 8 = b := by
    apply BitVec.eq_of_getLsbD_eq
    intro i hi
    simp only [half, BitVec.getLsbD_extractLsb', BitVec.getLsbD_append]
    simp [hi]
  rw [halfBytes, hlow, hhigh]

@[simp] theorem wordBytes_word (a b c d : Byte) : wordBytes (word a b c d) = [a, b, c, d] := by
  have hbyte (k : Nat) (x : Byte) (hx : ∀ i, i < 8 → (word a b c d).getLsbD (k + i) = x.getLsbD i) :
      (word a b c d).extractLsb' k 8 = x := by
    apply BitVec.eq_of_getLsbD_eq
    intro i hi
    rw [BitVec.getLsbD_extractLsb', hx i hi, decide_eq_true hi, Bool.true_and]
  have hbit (i : Nat) : (word a b c d).getLsbD i = if i < 24 then
      if i < 16 then if i < 8 then a.getLsbD i else b.getLsbD (i - 8) else c.getLsbD (i - 16) else d.getLsbD (i - 24) := by
    simp only [word, BitVec.getLsbD_append]
  have ha : (word a b c d).extractLsb' 0 8 = a := hbyte _ _ fun i hi => by
    rw [hbit, if_pos (by omega), if_pos (by omega), if_pos (by omega), Nat.zero_add]
  have hb : (word a b c d).extractLsb' 8 8 = b := hbyte _ _ fun i hi => by
    rw [hbit, if_pos (by omega), if_pos (by omega), if_neg (by omega), Nat.add_sub_cancel_left]
  have hc : (word a b c d).extractLsb' 16 8 = c := hbyte _ _ fun i hi => by
    rw [hbit, if_pos (by omega), if_neg (by omega), Nat.add_sub_cancel_left]
  have hd : (word a b c d).extractLsb' 24 8 = d := hbyte _ _ fun i hi => by
    rw [hbit, if_neg (by omega), Nat.add_sub_cancel_left]
  rw [wordBytes, ha, hb, hc, hd]

theorem flatMap_of_parseHalves {t : List Byte} {l : List Half} (h : parseHalves t = some l) : l.flatMap halfBytes = t := by
  induction t using parseHalves.induct generalizing l with
  | case1 => cases h; rfl
  | case2 a b t ih =>
    simp only [parseHalves, Option.map_eq_some_iff] at h
    obtain ⟨m, hm, rfl⟩ := h
    simp [ih hm]
  | case3 a => cases h

theorem flatMap_of_parseReports {t : List Byte} {l : List Report} (h : parseReports t = some l) :
    l.flatMap reportBytes = t := by
  induction t using parseReports.induct generalizing l with
  | case1 => cases h; rfl
  | case2 a b c d e f g t ih =>
    simp only [parseReports, Option.map_eq_some_iff] at h
    obtain ⟨m, hm, rfl⟩ := h
    simp [reportBytes, ih hm]
  | case3 t hne hno => simp [parseReports] at h

theorem flatMap_of_parseForecasts {t : List Byte} {l : List ForecastArgs} (h : parseForecasts t = some l) :
    l.flatMap forecastBytes = t := by
  induction t using parseForecasts.induct generalizing l with
  | case1 => cases h; rfl
  | case2 a b c d e f g k t ih =>
    simp only [parseForecasts, Option.map_eq_some_iff] at h
    obtain ⟨m, hm, rfl⟩ := h
    simp [forecastBytes, ih hm]
  | case3 t hne hno => simp [parseForecasts] at h

/-! ### Bodies -/

/-- A request as its kind and body spell it. -/
def Spells (kind : Byte) (body : List Byte) (r : Request) : Prop :=
  r.wf = true ∧ requestCode r = kind ∧ requestBody r = body

theorem parseTelemetry_spells {body : List Byte} {r : Request} (h : parseTelemetry body = some r) : Spells 0x33#8 body r := by
  cases body with
  | nil => cases h
  | cons n t =>
    simp only [parseTelemetry] at h
    cases hrs : parseReports t with
    | none => simp [hrs] at h
    | some rs =>
      simp only [hrs, Option.ite_none_right_eq_some, Option.some.injEq] at h
      obtain ⟨⟨hlen, hlo, hhi⟩, rfl⟩ := h
      refine ⟨decide_eq_true ⟨by omega, by omega⟩, rfl, ?_⟩
      rw [requestBody, flatMap_of_parseReports hrs, hlen]
      simp

theorem parseForecast_spells {body : List Byte} {r : Request} (h : parseForecast body = some r) : Spells 0x34#8 body r := by
  obtain _ | ⟨g, _ | ⟨a, _ | ⟨b, _ | ⟨c, _ | ⟨d, _ | ⟨n, t⟩⟩⟩⟩⟩⟩ := body
  case cons.cons.cons.cons.cons.cons =>
    simp only [parseForecast] at h
    cases hes : parseForecasts t with
    | none => simp [hes] at h
    | some es =>
      simp only [hes, Option.ite_none_right_eq_some, Option.some.injEq] at h
      obtain ⟨⟨hlen, hlo, hhi⟩, rfl⟩ := h
      have hcount : 1 ≤ es.length ∧ es.length ≤ 16 := by omega
      refine ⟨decide_eq_true hcount, rfl, ?_⟩
      rw [requestBody, flatMap_of_parseForecasts hes, hlen]
      simp
  all_goals cases h

theorem parseCurve_spells {body : List Byte} {r : Request} (h : parseCurve body = some r) : Spells 0x32#8 body r := by
  obtain _ | ⟨k, _ | ⟨d, t⟩⟩ := body
  case cons.cons =>
    simp only [parseCurve] at h
    cases hvs : parseHalves t with
    | none => simp [hvs] at h
    | some vs =>
      simp only [hvs, Option.ite_none_right_eq_some, Option.some.injEq] at h
      obtain ⟨hlen, rfl⟩ := h
      refine ⟨decide_eq_true hlen, rfl, ?_⟩
      rw [requestBody, flatMap_of_parseHalves hvs]
      rfl
  all_goals cases h

/-- One request of each kind of TABLE 12(b). -/
def sampleRequests : List Request :=
  [.timeSet 0 0, .configureMarket ⟨0, 0, 0, 0, 0⟩, .productSet ⟨0, 0, 0, 0, 0, 0, 0, 0, 0⟩, .hold ⟨0, 0, 0, 0, 0⟩, .award ⟨0, 0, 0⟩,
    .release ⟨0, 0⟩, .queryHeadroom ⟨0, 0, 0, 0⟩, .readSettlement, .productRead 0, .readCommitment 0, .listCommitments ⟨0, 0⟩,
    .readDeficits 0, .activate ⟨0, 0⟩, .deactivate 0, .armTrip 0 0, .configureGrid 0 0, .readActivations, .readCapture,
    .clearCapture, .siteSet ⟨0, 0, 0, 0, 0, 0⟩, .groupSet ⟨0, 0, 0, 0⟩, .curveSet ⟨0, 0, []⟩, .telemetry [], .forecast ⟨0, 0, []⟩,
    .configureFleet 0 0, .setpointChanges, .readSetpoints 0 0, .readGroup 0, .readStatus, .readNotices, .setAttention 0 0]

/-- A kind that some port permits is the kind of a sample request. -/
theorem kind_mem_samples (k : Byte) : (kindPorts k).isSome = true → k ∈ sampleRequests.map requestCode := by
  revert k
  decide

theorem kindPorts_isSome_iff (k : Byte) : (kindPorts k).isSome = true ↔ ∃ r : Request, requestCode r = k := by
  refine ⟨fun h => ?_, ?_⟩
  · obtain ⟨r, -, hr⟩ := List.mem_map.mp (kind_mem_samples k h)
    exact ⟨r, hr⟩
  · rintro ⟨r, rfl⟩
    obtain ⟨l, hl⟩ := kindPorts_requestCode r
    rw [hl]
    rfl

/-- A body of a kind's length spells a request of the kind, byte by byte. -/
theorem parseBody_spells (q : Request) {body : List Byte} {r : Request} (h : parseBody (requestCode q) body = some r) :
    Spells (requestCode q) body r := by
  cases q with
  | telemetry => exact parseTelemetry_spells ((parseBody_counted body).2.1.symm.trans h)
  | forecast => exact parseForecast_spells ((parseBody_counted body).2.2.symm.trans h)
  | curveSet => exact parseCurve_spells ((parseBody_counted body).1.symm.trans h)
  | _ =>
    rcases body with _ | ⟨_, _ | ⟨_, _ | ⟨_, _ | ⟨_, _ | ⟨_, _ | ⟨_, _ | ⟨_, _ | ⟨_, _ | ⟨_, _ | ⟨_, _ | ⟨_, _ | ⟨_, _ | ⟨_, _ | ⟨_,
      _ | ⟨_, t⟩⟩⟩⟩⟩⟩⟩⟩⟩⟩⟩⟩⟩⟩⟩ <;> cases h
    exact ⟨rfl, rfl, by simp [requestBody]⟩

/-! ### Frames -/

theorem half_toNat (a b : Byte) : (half a b).toNat = a.toNat + 256 * b.toNat := by
  rw [half, BitVec.toNat_append, ← Nat.shiftLeft_add_eq_or_of_lt a.isLt, Nat.shiftLeft_eq]
  omega

theorem natBytes_half (a b : Byte) : natBytes 2 (half a b).toNat = [a, b] := by
  have ha : BitVec.ofNat 8 (half a b).toNat = a := by
    apply BitVec.eq_of_toNat_eq
    rw [BitVec.toNat_ofNat, half_toNat]
    omega
  have hb : BitVec.ofNat 8 ((half a b).toNat / 256) = b := by
    apply BitVec.eq_of_toNat_eq
    rw [BitVec.toNat_ofNat, half_toNat]
    omega
  simp only [natBytes, ha, hb]

section Check
variable {p : Port} {a b kind tag : Byte} {body : List Byte}

/-- The body is as long as the frame says, and no longer than a frame may say. -/
def FrameFits (a b : Byte) (body : List Byte) : Prop := ¬((half a b).toNat > Config.maxBody ∨ body.length ≠ (half a b).toNat)

theorem checkFrame_of_length (h : (half a b).toNat > Config.maxBody ∨ body.length ≠ (half a b).toNat) :
    checkFrame p (a :: b :: kind :: tag :: body) = .refused kind tag .malformed := if_pos h

theorem checkFrame_of_unknown (h : FrameFits a b body) (hk : ¬∃ r : Request, requestCode r = kind) :
    checkFrame p (a :: b :: kind :: tag :: body) = .refused kind tag .malformed := by
  have hnone : kindPorts kind = none := by
    rw [← kindPorts_isSome_iff] at hk
    simpa using hk
  simp only [checkFrame, if_neg h, hnone]

theorem checkFrame_of_foreign (q : Request) (h : FrameFits a b body) (hp : permitted p q = false) :
    checkFrame p (a :: b :: requestCode q :: tag :: body) = .refused (requestCode q) tag .notPermitted := by
  obtain ⟨ports, hports⟩ := kindPorts_requestCode q
  have hc : ports.contains p = false := by simpa [permitted, hports] using hp
  simp only [checkFrame, if_neg h, hports, hc, Bool.not_false, if_true]

theorem checkFrame_of_spelled (q : Request) (h : FrameFits a b body) (hp : permitted p q = true) {r : Request}
    (hbody : parseBody (requestCode q) body = some r) :
    checkFrame p (a :: b :: requestCode q :: tag :: body) = .accepted tag r := by
  obtain ⟨ports, hports⟩ := kindPorts_requestCode q
  have hc : ports.contains p = true := by simpa [permitted, hports] using hp
  simp only [checkFrame, if_neg h, hports, hc, Bool.not_true, Bool.false_eq_true, if_false, hbody]

theorem checkFrame_of_unspelled (q : Request) (h : FrameFits a b body) (hp : permitted p q = true)
    (hbody : parseBody (requestCode q) body = none) :
    checkFrame p (a :: b :: requestCode q :: tag :: body) = .refused (requestCode q) tag .malformed := by
  obtain ⟨ports, hports⟩ := kindPorts_requestCode q
  have hc : ports.contains p = true := by simpa [permitted, hports] using hp
  simp only [checkFrame, if_neg h, hports, hc, Bool.not_true, Bool.false_eq_true, if_false, hbody]

end Check

/-- A body that spells a request of a permitted kind makes the frame of a permitted request. -/
theorem frame_of_parseBody {p : Port} {a b tag : Byte} {body : List Byte} (q : Request) (h : FrameFits a b body)
    (hp : permitted p q = true) {r : Request} (hbody : parseBody (requestCode q) body = some r) :
    r.presentable p = true ∧ a :: b :: requestCode q :: tag :: body = requestFrame tag r := by
  obtain ⟨hwf, hcode, hspelled⟩ := parseBody_spells q hbody
  have hpermitted : permitted p r = true := by rw [permitted, hcode]; exact hp
  have hsize : body.length = (half a b).toNat := not_not.mp fun hne => h (.inr hne)
  refine ⟨Bool.and_eq_true_iff.mpr ⟨hpermitted, hwf⟩, ?_⟩
  rw [requestFrame, hspelled, hcode, hsize, natBytes_half]
  rfl

theorem checkFrame_accepted {p : Port} {bytes : List Byte} {tag : Byte} {r : Request}
    (h : checkFrame p bytes = .accepted tag r) : r.presentable p = true ∧ bytes = requestFrame tag r := by
  obtain _ | ⟨a, _ | ⟨b, _ | ⟨kind, _ | ⟨t, body⟩⟩⟩⟩ := bytes
  case cons.cons.cons.cons =>
    by_cases hlen : (half a b).toNat > Config.maxBody ∨ body.length ≠ (half a b).toNat
    · rw [checkFrame_of_length hlen] at h
      cases h
    by_cases hk : ∃ q : Request, requestCode q = kind
    · obtain ⟨q, rfl⟩ := hk
      cases hp : permitted p q with
      | false =>
        rw [checkFrame_of_foreign q hlen hp] at h
        cases h
      | true =>
        cases hbody : parseBody (requestCode q) body with
        | none =>
          rw [checkFrame_of_unspelled q hlen hp hbody] at h
          cases h
        | some x =>
          rw [checkFrame_of_spelled q hlen hp hbody] at h
          cases h
          exact frame_of_parseBody q hlen hp hbody
    · rw [checkFrame_of_unknown hlen hk] at h
      cases h
  all_goals cases h

/-- Settles O20: a frame is checked back from its request, and its request is parsed back from its bytes. -/
theorem frameCheckAcceptsExactlyFrames : Obligations.FrameCheckAcceptsExactlyFrames := by
  intro p bytes tag r
  refine ⟨checkFrame_accepted, ?_⟩
  rintro ⟨hr, rfl⟩
  exact checkFrame_of_presentable p tag r hr

end Sys2Proof.Machine
end

section
/-! PROOFS. Transfers (chapter 12): what a first byte brings, WRITE and its refusals, READ, LINK_RESET, and requests that wait. -/
namespace Sys2Proof.Machine

/-! ### A first byte -/

theorem State.receive_of_unknown (s : State) (p : Port) (rest : List Byte) {b : Byte} (hw : b ≠ 0xA1#8) (hr : b ≠ 0xA2#8)
    (hl : b ≠ 0xA5#8) : s.receive p (b :: rest) = s := by
  have htype : transferType b = none := (if_neg hw).trans ((if_neg hr).trans (if_neg hl))
  simp [State.receive, transferEvents, htype]

/-! ### WRITE -/

theorem State.freeSlot_eq_none (s : State) (p : Port) : s.freeSlot p = none
    ↔ ∀ k, k < 4 → (Table.get none (s.port p).slots k).isSome := by
  unfold State.freeSlot PortState.freeSlot
  rw [List.find?_range_eq_none]
  simp [Config.numSlots, Option.isSome_iff_ne_none]

theorem State.freeSlot_eq_some {s : State} {p : Port} {k : Nat} (hk : k < 4) (hfree : Table.get none (s.port p).slots k = none)
    (hlow : ∀ j, j < k → (Table.get none (s.port p).slots j).isSome) : s.freeSlot p = some k := by
  unfold State.freeSlot PortState.freeSlot
  rw [List.find?_range_eq_some]
  refine ⟨by simp [hfree], List.mem_range.mpr hk, fun j hj => ?_⟩
  simpa [Option.isSome_iff_ne_none] using hlow j hj

theorem exec_write {s : State} (h : s.supply = .running) (p : Port) (bytes : List Byte) :
    exec (.write p bytes) s = .next (s.write p bytes).choose := congrArg _ (State.transfer_running s p _ h)

/-- Settles O19: the events of a first byte, and a WRITE by the check of its frame. -/
theorem writeTakesSlotOrIsRefused : Obligations.WriteTakesSlotOrIsRefused := by
  refine ⟨fun s p rest => ⟨rfl, rfl, rfl, fun b hw hr hl => s.receive_of_unknown p rest hw hr hl, s.receive_nil p⟩,
    fun s p bytes hs => ⟨fun hfull => ?_, fun k hk hfree hlow => ?_⟩⟩
  · rw [exec_write hs, State.write_full s p bytes ((s.freeSlot_eq_none p).mpr hfull)]
    rfl
  intro t refused
  have hslot : s.freeSlot p = some k := State.freeSlot_eq_some hk hfree hlow
  have hrefused {kind tag : Byte} {c : Status} (h : checkFrame p bytes = .refused kind tag c) :
      exec (.write p bytes) s = refused kind tag c := by
    rw [exec_write hs, State.write_refused s p bytes k kind tag c hslot h]
    rfl
  refine ⟨fun hshort => hrefused ?_, ?_, fun tag r hr hbytes => ?_⟩
  · obtain _ | ⟨a, _ | ⟨b, _ | ⟨c, _ | ⟨d, body⟩⟩⟩⟩ := bytes
    case cons.cons.cons.cons => exact absurd hshort (by simp)
    all_goals rfl
  · rintro a b kind tag body rfl n known allowed
    have hn : (half a b).toNat = n := half_toNat a b
    have hfits (hle : n ≤ 296) (hlen : body.length = n) : FrameFits a b body := by
      unfold FrameFits
      rw [hn]
      exact fun h => h.elim (fun h => absurd hle (Nat.not_le.mpr h)) fun h => h hlen
    have hforeign {q : Request} (hq : requestCode q = kind) (hno : ¬allowed) : permitted p q = false :=
      Bool.eq_false_iff.mpr fun hp => hno ⟨q, hq, hp⟩
    refine ⟨fun hbad => hrefused (checkFrame_of_length ?_), fun hle hlen hno => hrefused (checkFrame_of_unknown (hfits hle hlen) hno),
      fun hle hlen hk hno => hrefused ?_, fun hle hlen hallowed hframe => hrefused ?_⟩
    · rw [hn]
      exact hbad
    · obtain ⟨q, rfl⟩ := hk
      exact checkFrame_of_foreign q (hfits hle hlen) (hforeign rfl hno)
    · obtain ⟨q, rfl, hp⟩ := hallowed
      cases hbody : parseBody (requestCode q) body with
      | none => exact checkFrame_of_unspelled q (hfits hle hlen) hp hbody
      | some r =>
        obtain ⟨hr, heq⟩ := frame_of_parseBody (tag := tag) q (hfits hle hlen) hp hbody
        exact absurd heq (hframe r hr)
  · subst hbytes
    rw [exec_write hs, State.write_accepted s p _ k tag r hslot (checkFrame_of_presentable p tag r hr)]
    rfl

/-! ### Requests on a foreign port, and requests that wait -/

/-- Settles O21: TABLE 12(b) kind by kind, and the check of a foreign request's frame. -/
theorem rowOnForeignPortIsNotPermitted : Obligations.RowOnForeignPortIsNotPermitted := by
  refine ⟨fun p r => ?_, fun s p k tag r hs hk hwf hp => ?_⟩
  · cases p <;> cases r <;> rfl
  have hpresented : s.presented p tag r = (s.answered p k tag r .notPermitted .empty).choose := by
    have hcheck : checkFrame p (requestFrame tag r) = .refused (requestCode r) tag .notPermitted := by
      rw [checkFrame_requestFrame p tag r hwf, hp]
      rfl
    rw [State.presented, State.transfer_running _ _ _ hs, State.present, State.write_refused s p _ k _ _ _ hk hcheck]
    rfl
  by_cases h : jobOf r = none
  · rw [exec_commandOf_accepted s p tag r h, hpresented]
  rw [exec_commandOf_engine s p tag r h, hpresented]
  split
  · rename_i hfree
    have hw : (s.answered p k tag r .notPermitted .empty).eng.hasWork = false := by rw [State.answered_eng]; exact hfree.2.2
    rw [State.choose_of_noWork _ hw, State.finishJob_of_free _ _ hw]
    · simp [State.answered, State.taken, hs]
    · rw [State.answered_eng]
      exact hfree.2.1
  · rfl

/-- Settles O22: each class by its requests. -/
theorem requestWaitsAtTailOfItsClass : Obligations.RequestWaitsAtTailOfItsClass := by
  intro s p k tag r hs hjob hk hr x waits
  obtain ⟨j, hj⟩ := Option.ne_none_iff_exists'.mp hjob
  have wait {e : Engine} (h : jobOf r ≠ none) (hjoin : (s.taken p k tag r).enqueue x = { s.taken p k tag r with eng := e })
      (he : e.job = some j) : waits e := by
    have hbusy : ¬(s.supply = .running ∧ s.eng.job = none ∧ s.eng.hasWork = false) := fun hn => hjob hn.2.1
    have hpresent : s.present p tag r = { s.taken p k tag r with eng := e } := by
      rw [State.present_accepted s p k tag r hk hr, State.accept_of_engine _ _ _ _ _ (acceptedWork_of_engine p r _ h)]
      exact hjoin
    refine (exec_commandOf_engine s p tag r h).trans ?_
    rw [if_neg hbusy, State.presented, State.transfer_running _ _ _ hs, hpresent, State.choose_of_job _ j he]
  have htaken : (s.taken p k tag r).eng = s.eng := s.taken_eng p k tag r
  refine ⟨fun hreq hheld => ?_, fun hreq => ?_, fun hreq => ?_, fun hreq => ?_⟩
  · have hsame : Engine.abandoned { s.eng with activation := s.eng.activation ++ [.order x] }
        = { s.eng with activation := s.eng.activation ++ [.order x] } := Engine.abandoned_of_held _ hheld
    have hjoin : (s.taken p k tag r).joinActivation (.order x)
        = { s.taken p k tag r with eng := { s.eng with activation := s.eng.activation ++ [.order x] } } := by
      rw [State.joinActivation, htaken, hsame]
    obtain ⟨a, rfl⟩ | ⟨q, rfl⟩ := hreq
    · exact wait nofun hjoin hj
    · exact wait nofun hjoin hj
  · obtain ⟨a, rfl⟩ | ⟨a, rfl⟩ | ⟨a, rfl⟩ | ⟨a, rfl⟩ := hreq
    all_goals exact wait nofun (by rw [← htaken]; rfl) hj
  · obtain ⟨a, rfl⟩ | ⟨a, rfl⟩ | ⟨a, rfl⟩ | ⟨a, rfl⟩ | ⟨a, rfl⟩ | rfl | ⟨a, rfl⟩ | ⟨a, rfl⟩ | ⟨a, rfl⟩ | ⟨a, rfl⟩ := hreq
    all_goals exact wait nofun (by rw [← htaken]; rfl) hj
  · obtain ⟨a, rfl⟩ | ⟨a, rfl⟩ := hreq
    all_goals exact wait nofun (by rw [← htaken]; rfl) hj

/-! ### READ -/

theorem exec_read {s : State} (h : s.supply = .running) (p : Port) (part : ReadPart) :
    exec (.read p part) s = .next (s.withPort p ((s.port p).readTransfer part)).choose :=
  congrArg _ (State.transfer_running s p _ h)

/-- The status byte with its bits written out (TABLE 12(a) note 2). -/
theorem PortState.statusByte_eq (x : PortState) : x.statusByte = BitVec.ofNat 8 ((if x.replies = [] then 0 else 1)
    + (if (List.range 12).any (fun c => decide (0 < Table.get 0 x.notices c)) then 2 else 0)
    + (if x.lastWriteRefused = true then 4 else 0)) := by
  have hpending : x.pendingNotices = [] ↔ ¬(List.range 12).any (fun c => decide (0 < Table.get 0 x.notices c)) = true := by
    simp [PortState.pendingNotices, List.filter_eq_nil_iff, List.any_eq_true]
  unfold PortState.statusByte
  simp only [List.isEmpty_iff, hpending, ite_not]

theorem PortState.endRead_of_closed {x : PortState} (h : x.reading = none) (n : Nat) : x.endRead n = x := by
  simp [PortState.endRead, h]

theorem PortState.endRead_of_empty {x : PortState} {b : Byte} (h : x.reading = some ⟨b, none⟩) (n : Nat) :
    x.endRead n = { x with reading := none, miso := .bytes ([b, 0#8, 0#8].take n) } := by
  simp [PortState.endRead, h, Reading.bytes]

theorem PortState.endRead_of_early {x : PortState} {b : Byte} {z : Reply} (h : x.reading = some ⟨b, some z⟩) {n : Nat}
    (hn : n < (b :: replyFrame z).length) :
    x.endRead n = { x with reading := none, miso := .bytes ((b :: replyFrame z).take n) } := by
  have hearly : ¬(b :: replyFrame z).length ≤ n := Nat.not_le.mpr hn
  simp only [PortState.endRead, h, Reading.bytes]
  exact if_neg hearly

theorem PortState.endRead_of_whole {x : PortState} {b : Byte} {z : Reply} (h : x.reading = some ⟨b, some z⟩) {n : Nat}
    (hn : (b :: replyFrame z).length ≤ n) : x.endRead n = { x with
      reading := none, miso := .bytes (b :: replyFrame z), replies := x.replies.tail, slots := Table.set none x.slots z.slot none } := by
  simp only [PortState.endRead, h, Reading.bytes, if_pos hn, List.take_of_length_le hn]

/-- Settles O23: the two events of a READ, and both in one transfer. -/
theorem readReturnsOldestReply : Obligations.ReadReturnsOldestReply := by
  intro s p n hs x status left
  have hstatus : x.statusByte = status := x.statusByte_eq
  have row {part : ReadPart} {y : PortState} (h : x.readTransfer part = y) : exec (.read p part) s = left y :=
    (exec_read hs p part).trans (congrArg (fun y => Host.Outcome.next (s.withPort p y).choose) h)
  have hbegun : x.beginRead.reading = some ⟨status, x.replies.head?⟩ := by
    rw [← hstatus]
    rfl
  refine ⟨fun hr => row ?_, fun z rest hr => ⟨fun hn => row ?_, fun hn => row ?_⟩, row ?_, fun hr => row ?_, fun b hr => row ?_,
    fun b z hr => ⟨fun hn => row ?_, fun hn rest hrest => row ?_⟩⟩
  · exact PortState.endRead_of_empty (by rw [hbegun, hr]; rfl) n
  · exact PortState.endRead_of_early (by rw [hbegun, hr]; rfl) hn
  · refine (PortState.endRead_of_whole (z := z) (b := status) (by rw [hbegun, hr]; rfl) hn).trans ?_
    have htail : x.beginRead.replies.tail = rest := congrArg List.tail hr
    rw [htail]
    rfl
  · rw [← hstatus]
    rfl
  · exact PortState.endRead_of_closed hr n
  · exact PortState.endRead_of_empty hr n
  · exact PortState.endRead_of_early hr hn
  · refine (PortState.endRead_of_whole hr hn).trans ?_
    rw [hrest]
    rfl

/-! ### LINK_RESET -/

/-- Settles O24: the port's reset values, and the engine's entries and job by their port. -/
theorem linkResetClearsOnePort : Obligations.LinkResetClearsOnePort := by
  intro s p hs
  have hport : (s.linkReset p).port p = { miso := .dontCare } := State.port_withPort_self _ _ _
  have heng : (s.linkReset p).eng = s.eng.linkReset p := State.withPort_eng _ _ _
  refine ⟨s.linkReset p, congrArg _ (State.transfer_running s p _ hs), hport, ?_, fun q hq => ?_, ?_, ?_, by simp [State.linkReset],
    by simp [State.linkReset], by simp [State.linkReset], by simp [State.linkReset], by simp [State.linkReset],
    by simp [State.linkReset], by simp [State.linkReset], by simp [State.linkReset], by simp [State.linkReset],
    by simp [State.linkReset]⟩
  · have hquiet : ({ miso := .dontCare } : PortState).wantsAttention = false := by decide
    rw [State.attn, hport, hquiet, Bool.and_false]
  · rw [State.linkReset, State.port_withPort, if_neg hq]
    cases q <;> rfl
  · intro mark
    rw [heng]
    unfold Engine.linkReset Job.orphaned
    cases s.eng.job with
    | none => rfl
    | some j => cases j <;> rfl
  · rw [heng]
    have hdecide (q : Port) : (q != p) = decide (q ≠ p) := by cases q <;> cases p <;> rfl
    have hfilter : s.eng.activation.filter (fun a => !a.fromPort p) = s.eng.activation.filter (fun a => match a with
        | .order x => decide (x.port ≠ p)
        | .trip _ => true) := by
      refine List.filter_congr fun a _ => ?_
      cases a with
      | order x => exact hdecide x.port
      | trip e => rfl
    unfold Engine.linkReset
    simp only [hdecide]
    exact congrArg (fun l => { s.eng with
      job := s.eng.job.map (Job.orphaned p), activation := l
      fleet := s.eng.fleet.filter (fun x => decide (x.port ≠ p)), book := s.eng.book.filter (fun x => decide (x.port ≠ p))
      admission := s.eng.admission.filter (fun x => decide (x.port ≠ p)) }) hfilter

end Sys2Proof.Machine
end

section
/-! PROOFS. READ_SETTLEMENT: what leaves the settlement queue, and the SETTLING commitments that take its place (7.6). -/
namespace Sys2Proof.Machine

/-! ### Commitments that leave the table -/

theorem Commitments.remove_issue (c : Commitments) (i j : Nat) :
    (c.remove i).issue j = if j = i then c.issue j + 1#8 else c.issue j := by
  refine Table.get_set.trans ?_
  split
  · subst_vars
    rfl
  · rfl

theorem Commitments.settle_issue (c : Commitments) (r : Commitment) (f : Figures) (j : Nat) :
    (c.settle r f).issue j = if j = r.id then c.issue j + 1#8 else c.issue j := c.remove_issue r.id j

/-- Where each step of a fold advances its own id's counter, each id named advances once (R96). -/
theorem Commitments.foldl_issue {step : Commitments → Commitment → Commitments}
    (hstep : ∀ c r j, (step c r).issue j = if j = r.id then c.issue j + 1#8 else c.issue j) {l : List Commitment} (c : Commitments)
    (hids : (l.map (·.id)).Nodup) (i : Nat) :
    (l.foldl step c).issue i = if ∃ x ∈ l, x.id = i then c.issue i + 1#8 else c.issue i := by
  induction l generalizing c with
  | nil => simp
  | cons r t ih =>
    obtain ⟨hr, ht⟩ := List.nodup_cons.mp hids
    rw [List.foldl_cons, ih _ ht, hstep]
    by_cases hi : r.id = i
    · subst hi
      have hno : ¬∃ x ∈ t, x.id = r.id := fun ⟨x, hx, hid⟩ => hr (List.mem_map.mpr ⟨x, hx, hid⟩)
      rw [if_neg hno, if_pos rfl, if_pos ⟨r, List.mem_cons_self, rfl⟩]
    · have hne : ¬i = r.id := fun h => hi h.symm
      rw [if_neg hne]
      refine if_congr ⟨fun ⟨x, hx, hid⟩ => ⟨x, List.mem_cons_of_mem r hx, hid⟩, fun ⟨x, hx, hid⟩ => ?_⟩ rfl rfl
      obtain rfl | hx := List.mem_cons.mp hx
      · exact absurd hid hi
      · exact ⟨x, hx, hid⟩

/-- Records that are dropped by id are dropped themselves, as ids are unique. -/
theorem Commitments.Fits.filter_ids {c : Commitments} (h : c.Fits) {l : List Commitment} (hl : ∀ r ∈ l, r ∈ c.records) :
    c.records.filter (fun x => decide (∀ r ∈ l, x.id ≠ r.id)) = c.records.filter (fun x => decide (x ∉ l)) :=
  List.filter_congr fun x hx => decide_eq_decide.mpr
    ⟨fun hids hmem => hids x hmem rfl, fun hno r hr hid => hno (h.id_inj hx (hl r hr) hid ▸ hr)⟩

/-! ### The order of the SETTLING commitments (R111) -/

/-- By last interval, then id. -/
def Commitment.settlesBefore (x y : Commitment) : Prop := x.last < y.last ∨ (x.last = y.last ∧ x.id < y.id)

theorem Commitments.Fits.settling_ordered {c : Commitments} (h : c.Fits) : c.settling.Pairwise Commitment.settlesBefore := by
  have hcompare : (c.records.filter (fun r => r.state == .settling)).Pairwise (fun a b =>
      decide (a.last < b.last ∨ (a.last = b.last ∧ a.id < b.id)) = true
      ∨ decide (b.last < a.last ∨ (b.last = a.last ∧ b.id < a.id)) = true) := by
    refine (h.record_order.filter _).imp fun {a b} hlt => ?_
    simp only [decide_eq_true_eq]
    omega
  refine (sortBy_pairwise (fun a b d hab hbd => ?_) hcompare).imp fun {a b} hab => of_decide_eq_true hab
  simp only [decide_eq_true_eq] at hab hbd ⊢
  omega

theorem Commitments.settling_length (c : Commitments) : c.settling.length = c.records.countP (fun x => x.state == .settling) := by
  rw [Commitments.settling, length_sortBy, List.countP_eq_length_filter]

theorem Commitments.settling_perm (c : Commitments) : c.settling.Perm (c.records.filter (·.state == .settling)) :=
  sortBy_perm _ _

theorem Commitments.Fits.settling_ids {c : Commitments} (h : c.Fits) : (c.settling.map (·.id)).Nodup :=
  (c.settling_perm.map _).nodup_iff.mpr (List.pairwise_map.mpr ((h.record_order.filter _).imp fun hlt => hlt.ne))

theorem countP_not_mem_take {α : Type} [DecidableEq α] {l : List α} (hl : l.Nodup) (n : Nat) :
    l.countP (fun x => decide (x ∉ l.take n)) = l.length - (l.take n).length := by
  obtain ⟨front, hfront⟩ : ∃ front, front = l.take n := ⟨_, rfl⟩
  obtain ⟨rest, hrest⟩ : ∃ rest, rest = l.drop n := ⟨_, rfl⟩
  have hsplit : l = front ++ rest := by rw [hfront, hrest, List.take_append_drop]
  rw [← hfront]
  subst hsplit
  have hout : ∀ x ∈ rest, x ∉ front := fun x hx hin => List.disjoint_of_nodup_append hl hin hx
  rw [List.countP_append, List.countP_eq_zero.mpr (by simp), List.countP_eq_length.mpr (by simpa using hout), List.length_append]
  omega

/-- Settles O37: the queue, the records and the counters of the SETTLING commitments moved, by the fold that settles them. -/
theorem readSettlementRefillsQueue : Obligations.ReadSettlementRefillsQueue := by
  intro s k tag hready hk hbook out
  have hfits := hbook.table
  let moving := s.cmt.settling.take out.length
  let figures (r : Commitment) : Figures := r.figures.getD ⟨0, 0#32⟩
  let base : Commitments := { s.cmt with queue := s.cmt.queue.drop 4 }
  let c := moving.foldl (fun c r => c.settle r (figures r)) base
  have hsub : moving.Sublist s.cmt.settling := List.take_sublist _ _
  have hmem {x : Commitment} (hx : x ∈ moving) : x ∈ s.cmt.records ∧ x.state = .settling :=
    Commitments.mem_settling.mp (hsub.subset hx)
  have hrecords : c.records = s.cmt.records.filter (fun x => decide (x ∉ moving)) :=
    (Commitments.foldl_settle_records figures moving base).trans (hfits.filter_ids fun r hr => (hmem hr).1)
  have hordered := hfits.settling_ordered
  have hids : (moving.map (·.id)).Nodup := hfits.settling_ids.sublist (hsub.map _)
  have hrest : c.settling.length = s.cmt.records.countP (fun x => x.state == .settling) - moving.length := by
    have hnodup : s.cmt.settling.Nodup := List.Nodup.of_map _ hfits.settling_ids
    calc c.settling.length
        = (s.cmt.records.filter (·.state == .settling)).countP (fun x => decide (x ∉ moving)) := by
          rw [c.settling_length, hrecords, List.countP_filter, List.countP_filter]
          exact List.countP_congr fun x _ => by rw [Bool.and_comm]
      _ = s.cmt.settling.countP (fun x => decide (x ∉ moving)) := (s.cmt.settling_perm.countP_eq _).symm
      _ = s.cmt.settling.length - moving.length := countP_not_mem_take hnodup _
      _ = _ := by rw [s.cmt.settling_length]
  refine ⟨moving, { s with cmt := c }, ?_, ?_, fun x hx => hmem hx, hordered.sublist hsub, fun x hx y hy hst hno => ?_, rfl, ?_, ?_,
    hrecords, fun i => Commitments.foldl_issue (fun c r => c.settle_issue r (figures r)) base hids i⟩
  · rw [← hrest]
    exact exec_free_of_answer s .market k tag .readSettlement hready hk rfl nofun rfl rfl
  · rw [List.length_take, s.cmt.settling_length]
  · have hsplit : s.cmt.settling = moving ++ s.cmt.settling.drop out.length := (List.take_append_drop _ _).symm
    have hlater : y ∈ s.cmt.settling.drop out.length := by
      have hall : y ∈ s.cmt.settling := Commitments.mem_settling.mpr ⟨hy, hst⟩
      rw [hsplit] at hall
      exact (List.mem_append.mp hall).resolve_left hno
    rw [hsplit] at hordered
    exact (List.pairwise_append.mp hordered).2.2 x hx y hlater
  · exact Commitments.foldl_settle_products figures moving base
  · exact Commitments.foldl_settle_queue figures moving base

end Sys2Proof.Machine
end

section
/-! PROOFS. The site split (10.4): each member's share is its capability, or its share by largest remainder (R150). -/
namespace Sys2Proof.Machine

theorem Table.get_of_mem {α : Type} {d : α} {t : Table α} (hkeys : (t.map (·.1)).Nodup) {k : Nat} {v : α} (h : (k, v) ∈ t) :
    Table.get d t k = v := by
  induction t with
  | nil => exact absurd h List.not_mem_nil
  | cons e t ih =>
    obtain ⟨hno, hrest⟩ := List.nodup_cons.mp hkeys
    obtain rfl | hin := List.mem_cons.mp h
    · exact if_pos rfl
    · have hne : e.1 ≠ k := fun heq => hno (List.mem_map.mpr ⟨(k, v), hin, heq.symm⟩)
      exact (if_neg hne).trans (ih hrest hin)

/-! ### The sign of a target -/

theorem signed_eq {target : Int} (h : target ≠ 0) (x : Nat) : signed target x = Int.sign target * (x : Int) := by
  rw [signed]
  split
  · rw [Int.sign_eq_one_of_pos ‹_›, Int.one_mul]
  · rw [Int.sign_eq_neg_one_of_neg (by omega), Int.neg_mul, Int.one_mul]

theorem natAbs_signed (target : Int) (x : Nat) : (signed target x).natAbs = x := by
  rw [signed]
  split <;> omega

theorem sum_map_signed {target : Int} (h : target ≠ 0) {α : Type} (l : List α) (f : α → Nat) :
    (l.map (fun c => signed target (f c))).sum = Int.sign target * (((l.map f).sum : Nat) : Int) := by
  induction l with
  | nil => simp
  | cons c t ih => rw [List.map_cons, List.sum_cons, ih, signed_eq h, List.map_cons, List.sum_cons, Nat.cast_add, Int.mul_add]

/-! ### A member's share -/

/-- The magnitude of a member's setpoint (R150). -/
def memberShare (p : Nat) (caps : List (Nat × Nat)) (c : Nat × Nat) : Nat :=
  if capTotal caps ≤ p then c.2
  else p * c.2 / capTotal caps + if c.1 ∈ servedKeys p (capTotal caps) caps then 1 else 0

theorem memberShare_of_le {p : Nat} {caps : List (Nat × Nat)} (h : capTotal caps ≤ p) (c : Nat × Nat) :
    memberShare p caps c = c.2 := if_pos h

theorem memberShare_of_lt {p : Nat} {caps : List (Nat × Nat)} (h : p < capTotal caps) (c : Nat × Nat) : memberShare p caps c =
    p * c.2 / capTotal caps + if c.1 ∈ servedKeys p (capTotal caps) caps then 1 else 0 := if_neg (Nat.not_le.mpr h)

theorem splitTarget_eq {target : Int} (h : target ≠ 0) (caps : List (Nat × Nat)) :
    splitTarget target caps = caps.map (fun c => (c.1, signed target (memberShare target.natAbs caps c))) := by
  rw [splitTarget, if_neg h]
  split
  · rename_i hle
    exact List.map_congr_left fun c _ => by rw [memberShare_of_le hle]
  · rename_i hlt
    rw [largestRemainder_eq, List.map_map]
    exact List.map_congr_left fun c _ => by rw [memberShare_of_lt (Nat.not_le.mp hlt), Function.comp_apply]

theorem memberShare_sum {p : Nat} {caps : List (Nat × Nat)} (hkeys : (caps.map (·.1)).Nodup) :
    (caps.map (memberShare p caps)).sum = min p (capTotal caps) := by
  by_cases h : capTotal caps ≤ p
  · rw [funext (memberShare_of_le h), Nat.min_eq_right h]
    rfl
  · have hlt := Nat.not_le.mp h
    have hsum := largestRemainder_sum (q := p) hkeys (t := capTotal caps) rfl (Nat.zero_lt_of_lt hlt)
    rw [largestRemainder_eq, List.map_map] at hsum
    rw [funext (memberShare_of_lt hlt), Nat.min_eq_left hlt.le]
    exact hsum

theorem memberShare_le {p : Nat} {caps : List (Nat × Nat)} (hkeys : (caps.map (·.1)).Nodup) {c : Nat × Nat} (hc : c ∈ caps) :
    memberShare p caps c ≤ c.2 := by
  by_cases h : capTotal caps ≤ p
  · exact (memberShare_of_le h c).le
  · have hlt := Nat.not_le.mp h
    rw [memberShare_of_lt hlt]
    exact share_le_weight hkeys rfl (Nat.zero_lt_of_lt hlt) hlt.le hc

/-- A member takes one unit above its floor share exactly when it is served. -/
theorem memberShare_above {p : Nat} {caps : List (Nat × Nat)} (h : p < capTotal caps) (c : Nat × Nat) :
    memberShare p caps c = p * c.2 / capTotal caps + 1 ↔ c.1 ∈ servedKeys p (capTotal caps) caps := by
  rw [memberShare_of_lt h]
  split <;> simp [*]

theorem memberShare_floor {p : Nat} {caps : List (Nat × Nat)} (h : p < capTotal caps) (c : Nat × Nat) :
    memberShare p caps c = p * c.2 / capTotal caps ↔ c.1 ∉ servedKeys p (capTotal caps) caps := by
  rw [memberShare_of_lt h]
  split <;> simp [*]

/-- Settles O47: the split is the members' shares under the target's sign, and the shares are those of the largest remainder. -/
theorem splitSumsToTargetWithinCapability : Obligations.SplitSumsToTargetWithinCapability := by
  intro target caps hne hkeys total p split share left
  have hsplit : split = caps.map (fun c => (c.1, signed target (memberShare p caps c))) := splitTarget_eq hne caps
  have hsplitKeys : split.map (·.1) = caps.map (·.1) := by
    rw [hsplit, List.map_map]
    rfl
  have hget : ∀ c ∈ caps, Table.get 0 split c.1 = signed target (memberShare p caps c) := fun c hc =>
    Table.get_of_mem (hsplitKeys ▸ hkeys) (hsplit ▸ List.mem_map.mpr ⟨c, hc, rfl⟩)
  have hshare : ∀ c ∈ caps, share c = memberShare p caps c := fun c hc =>
    (congrArg Int.natAbs (hget c hc)).trans (natAbs_signed _ _)
  refine ⟨hsplitKeys, ?_, fun c hc => ⟨?_, ?_⟩, fun hle c hc => ?_, fun hlt c hc => ?_, fun hlt c hc d hd hup hfloor => ?_⟩
  · have hsum : (caps.map (memberShare p caps)).sum = min p total := memberShare_sum hkeys
    rw [hsplit, List.map_map, ← hsum]
    exact sum_map_signed hne caps _
  · rw [hget c hc, hshare c hc, signed_eq hne]
  · rw [hshare c hc]
    exact memberShare_le hkeys hc
  · rw [hshare c hc, memberShare_of_le hle]
  · rw [hshare c hc]
    by_cases hserved : c.1 ∈ servedKeys p (capTotal caps) caps
    · exact .inr ⟨(memberShare_above hlt c).mpr hserved, served_remainder_pos hkeys rfl (Nat.zero_lt_of_lt hlt) hc hserved⟩
    · exact .inl ((memberShare_floor hlt c).mpr hserved)
  · rw [hshare c hc] at hup
    rw [hshare d hd] at hfloor
    have hbefore := served_before hkeys hc hd ((memberShare_above hlt c).mp hup) ((memberShare_floor hlt d).mp hfloor)
    exact hbefore.imp_right fun ⟨heq, hless⟩ => ⟨heq, hless.le⟩

end Sys2Proof.Machine
end

section
/-! PROOFS. DISPATCH's commit (10.2 to 10.5): the groups' records, the setpoints that differ, and the notices. -/
namespace Sys2Proof.Machine

/-! ### A group's target (R147, R148) -/

theorem roundThousand_eq (n : Int) : roundThousand n = Int.sign n * (((n.natAbs + 500) / 1000 : Nat) : Int) := by
  unfold roundThousand
  obtain hn | rfl | hp := Int.lt_trichotomy n 0
  · rw [if_neg (by omega), Int.sign_eq_neg_one_of_neg hn, Int.neg_mul, Int.one_mul]
  · rfl
  · rw [if_pos hp.le, Int.sign_eq_one_of_pos hp, Int.one_mul]

theorem reverses_iff {previous computed : Int} {n : Nat} : reverses previous computed n = true ↔ 0 < n ∧ previous * computed < 0 := by
  rw [mul_neg_iff]
  simp only [reverses, Bool.and_eq_true, Bool.or_eq_true, decide_eq_true_eq]
  omega

theorem GroupDispatch.publish_eq (d : GroupDispatch) (computed : Int) (guarded : Prop) [Decidable guarded] (n : Nat) :
    d.publish computed (decide guarded) n =
      { d with
        computed := computed
        published := if guarded ∨ (¬guarded ∧ 0 < n ∧ d.previous * computed < 0) then 0 else computed
        guard := if ¬guarded ∧ 0 < n ∧ d.previous * computed < 0 then true else d.guard
        remaining := if ¬guarded ∧ 0 < n ∧ d.previous * computed < 0 then n else d.remaining } := by
  unfold GroupDispatch.publish
  by_cases hg : guarded
  · simp [hg]
  · by_cases hr : 0 < n ∧ d.previous * computed < 0
    · simp [hg, hr, reverses_iff]
    · have hno : ¬reverses d.previous computed n = true := fun h => hr (reverses_iff.mp h)
      simp [hg, hr, hno]

/-! ### The site's setpoint (R150) -/

theorem Table.get_append_right {α : Type} {d : α} {t u : Table α} {i : Nat} (h : ∀ e ∈ t, e.1 ≠ i) :
    Table.get d (t ++ u) i = Table.get d u i := by
  induction t with
  | nil => rfl
  | cons e t ih => exact (if_neg (h e List.mem_cons_self)).trans (ih fun x hx => h x (List.mem_cons_of_mem e hx))

theorem Table.get_append_left {α : Type} {d : α} {t u : Table α} {i : Nat} (h : ∀ e ∈ u, e.1 ≠ i) :
    Table.get d (t ++ u) i = Table.get d t i := by
  induction t with
  | nil => exact Table.get_of_not_key h
  | cons e t ih => exact if_congr Iff.rfl rfl ih

/-- Where only one of the tables joined has the key, that table answers. -/
theorem Table.get_flatMap {α : Type} {d : α} {f : Nat → Table α} {l : List Nat} {g i : Nat} (hl : l.Nodup) (hg : g ∈ l)
    (hno : ∀ x ∈ l, x ≠ g → ∀ e ∈ f x, e.1 ≠ i) : Table.get d (l.flatMap f) i = Table.get d (f g) i := by
  induction l with
  | nil => exact absurd hg List.not_mem_nil
  | cons x t ih =>
    obtain ⟨hx, ht⟩ := List.nodup_cons.mp hl
    rw [List.flatMap_cons]
    obtain rfl | hin := List.mem_cons.mp hg
    · refine Table.get_append_left fun e he => ?_
      obtain ⟨y, hy, hey⟩ := List.mem_flatMap.mp he
      exact hno y (List.mem_cons_of_mem g hy) (fun h => hx (h ▸ hy)) e hey
    · rw [Table.get_append_right (hno x List.mem_cons_self fun h => hx (h ▸ hin))]
      exact ih ht hin fun y hy => hno y (List.mem_cons_of_mem x hy)

theorem splitTarget_keys {target : Int} {caps : List (Nat × Nat)} {e : Nat × Int} (h : e ∈ splitTarget target caps) :
    e.1 ∈ caps.map (·.1) := by
  by_cases hz : target = 0
  · rw [splitTarget, if_pos hz] at h
    exact absurd h List.not_mem_nil
  · rw [splitTarget_eq hz] at h
    obtain ⟨c, hc, rfl⟩ := List.mem_map.mp h
    exact List.mem_map.mpr ⟨c, hc, rfl⟩

/-- A site takes a setpoint from the group it is a fresh member of, alone. -/
theorem Intake.Canonical.key_of_split {t : Intake} (h : t.Canonical) {target : Int} {g i : Nat} {e : Nat × Int}
    (he : e ∈ splitTarget target (t.capabilities g target)) (hi : e.1 = i) :
    (t.site i).fresh = true ∧ (t.site i).member = some g := by
  obtain ⟨c, hc, hci⟩ := List.mem_map.mp (splitTarget_keys he)
  obtain ⟨x, hx, rfl⟩ := List.mem_map.mp hc
  obtain ⟨hin, hmember⟩ := List.mem_filter.mp hx
  have hkeys : (t.sites.map (·.1)).Nodup := (Table.wf_iff.mp h.sites).1.imp fun hlt => hlt.ne
  have hsite : t.site i = x.2 := Table.get_of_mem hkeys ((hci.trans hi) ▸ hin)
  rw [hsite]
  simpa using hmember

/-- The group a site takes its setpoint from, if any. -/
def Intake.splitGroup (t : Intake) (i g : Nat) : Prop := (t.site i).fresh = true ∧ (t.site i).member = some g ∧ g < 64

theorem State.siteTargets_of_group {s : State} (h : s.tiu.Canonical) (groups : Table GroupDispatch) {i g : Nat}
    (hg : s.tiu.splitGroup i g) : Table.get 0 (s.siteTargets groups) i =
      Table.get 0 (splitTarget (Table.get ({} : GroupDispatch) groups g).published
        (s.tiu.capabilities g (Table.get ({} : GroupDispatch) groups g).published)) i := by
  obtain ⟨-, hmember, hlt⟩ := hg
  refine Table.get_flatMap List.nodup_range (List.mem_range.mpr hlt) fun x _ hne e he hi => hne ?_
  have hx := (h.key_of_split he hi).2
  rw [hmember] at hx
  exact (Option.some.inj hx).symm

theorem State.siteTargets_of_none {s : State} (h : s.tiu.Canonical) (groups : Table GroupDispatch) {i : Nat}
    (hg : ∀ g, ¬s.tiu.splitGroup i g) : Table.get 0 (s.siteTargets groups) i = 0 := by
  refine Table.get_of_not_key fun e he hi => ?_
  obtain ⟨g, hin, hsplit⟩ := List.mem_flatMap.mp he
  obtain ⟨hfresh, hmember⟩ := h.key_of_split hsplit hi
  exact hg g ⟨hfresh, hmember, List.mem_range.mp hin⟩

/-! ### The setpoints that differ (R152) -/

/-- The sites whose new setpoint differs. -/
def DispatchUnit.changed (d : DispatchUnit) (targets : List (Nat × Int)) : List Nat :=
  (List.range Config.numSites).filter (fun i => decide (Table.get 0 targets i ≠ (d.setpoint i).value))

theorem DispatchUnit.mem_changed {d : DispatchUnit} {targets : List (Nat × Int)} {i : Nat} :
    i ∈ d.changed targets ↔ i < 4096 ∧ Table.get 0 targets i ≠ (d.setpoint i).value := by
  rw [DispatchUnit.changed, List.mem_filter, List.mem_range, decide_eq_true_eq]

theorem DispatchUnit.commitSetpoints_of_none {d : DispatchUnit} {targets : List (Nat × Int)} (h : d.changed targets = []) :
    d.commitSetpoints targets = d := by
  unfold DispatchUnit.changed at h
  unfold DispatchUnit.commitSetpoints
  exact if_pos h

theorem DispatchUnit.commitSetpoints_of_some {d : DispatchUnit} {targets : List (Nat × Int)} (h : d.changed targets ≠ []) :
    d.commitSetpoints targets = { d with
      sequence := d.sequence + 1#16
      setpoints := (d.changed targets).foldl (fun t i => Table.set {} t i ⟨Table.get 0 targets i, d.sequence + 1#16⟩) d.setpoints
      dirty := (d.changed targets).foldl addDirty d.dirty } := by
  unfold DispatchUnit.changed at h ⊢
  unfold DispatchUnit.commitSetpoints
  exact if_neg h

@[simp] theorem DispatchUnit.commitSetpoints_tickCount (d : DispatchUnit) (targets : List (Nat × Int)) :
    (d.commitSetpoints targets).tickCount = d.tickCount := by
  unfold DispatchUnit.commitSetpoints
  dsimp only
  split <;> rfl

@[simp] theorem DispatchUnit.commitSetpoints_groups (d : DispatchUnit) (targets : List (Nat × Int)) :
    (d.commitSetpoints targets).groups = d.groups := by
  unfold DispatchUnit.commitSetpoints
  dsimp only
  split <;> rfl

theorem Table.get_foldl_set {α : Type} [DecidableEq α] {d : α} (v : Nat → α) (l : List Nat) (t : Table α) (j : Nat) :
    Table.get d (l.foldl (fun t i => Table.set d t i (v i)) t) j = if j ∈ l then v j else Table.get d t j := by
  induction l generalizing t with
  | nil => simp
  | cons i l ih =>
    rw [List.foldl_cons, ih, Table.get_set]
    by_cases hl : j ∈ l
    · rw [if_pos hl, if_pos (List.mem_cons_of_mem i hl)]
    · by_cases hi : j = i
      · rw [if_neg hl, if_pos hi, if_pos (hi ▸ List.mem_cons_self), hi]
      · rw [if_neg hl, if_neg hi, if_neg fun h => (List.mem_cons.mp h).elim hi hl]

theorem DispatchUnit.commitSetpoints_setpoint (d : DispatchUnit) (targets : List (Nat × Int)) (i : Nat) :
    (d.commitSetpoints targets).setpoint i =
      if i ∈ d.changed targets then ⟨Table.get 0 targets i, d.sequence + 1#16⟩ else d.setpoint i := by
  by_cases h : d.changed targets = []
  · rw [DispatchUnit.commitSetpoints_of_none h, h, if_neg List.not_mem_nil]
  · rw [DispatchUnit.commitSetpoints_of_some h]
    generalize d.changed targets = changed
    exact Table.get_foldl_set _ _ _ _

theorem mem_addDirty {l : List Nat} {i j : Nat} : j ∈ addDirty l i ↔ j ∈ l ∨ j = i := by
  unfold addDirty
  split
  · exact ⟨.inl, fun h => h.elim id fun heq => heq ▸ ‹i ∈ l›⟩
  · rw [mem_insertBy, or_comm]

theorem mem_foldl_addDirty {m l : List Nat} {j : Nat} : j ∈ m.foldl addDirty l ↔ j ∈ l ∨ j ∈ m := by
  induction m generalizing l with
  | nil => simp
  | cons i m ih => rw [List.foldl_cons, ih, mem_addDirty, List.mem_cons, or_assoc]

theorem DispatchUnit.mem_commitSetpoints_dirty (d : DispatchUnit) (targets : List (Nat × Int)) {i : Nat} :
    i ∈ (d.commitSetpoints targets).dirty ↔ i ∈ d.dirty ∨ i ∈ d.changed targets := by
  by_cases h : d.changed targets = []
  · rw [DispatchUnit.commitSetpoints_of_none h, h]
    simp
  · rw [DispatchUnit.commitSetpoints_of_some h]
    generalize d.changed targets = changed
    exact mem_foldl_addDirty

theorem DispatchUnit.commitSetpoints_sequence {d : DispatchUnit} {targets : List (Nat × Int)} (h : d.changed targets ≠ []) :
    (d.commitSetpoints targets).sequence = d.sequence + 1#16 := by
  rw [DispatchUnit.commitSetpoints_of_some h]

/-! ### The commit -/

/-- A site's setpoint under the targets a commit publishes (R150). -/
def State.newSetpoint (s : State) (f : List (Nat × Int)) (guarded : List Nat) (i : Nat) : Int :=
  Table.get 0 (s.siteTargets (Table.tabulate {} Config.numGroups (s.committedGroup f guarded))) i

/-- The sites whose setpoint a commit changes. -/
def State.changedSites (s : State) (f : List (Nat × Int)) (guarded : List Nat) : List Nat :=
  DispatchUnit.changed { s.dsp with groups := Table.tabulate {} Config.numGroups (s.committedGroup f guarded) }
    (s.siteTargets (Table.tabulate {} Config.numGroups (s.committedGroup f guarded)))

theorem State.mem_changedSites {s : State} {f : List (Nat × Int)} {guarded : List Nat} {i : Nat} :
    i ∈ s.changedSites f guarded ↔ i < 4096 ∧ s.newSetpoint f guarded i ≠ (s.dsp.setpoint i).value :=
  DispatchUnit.mem_changed

theorem State.committedUnit_setpoint (s : State) (f : List (Nat × Int)) (guarded : List Nat) (i : Nat) :
    (s.committedUnit f guarded).setpoint i = if i ∈ s.changedSites f guarded
      then ⟨s.newSetpoint f guarded i, s.dsp.sequence + 1#16⟩ else s.dsp.setpoint i :=
  DispatchUnit.commitSetpoints_setpoint _ _ _

theorem State.mem_committedUnit_dirty (s : State) (f : List (Nat × Int)) (guarded : List Nat) {i : Nat} :
    i ∈ (s.committedUnit f guarded).dirty ↔ i ∈ s.dsp.dirty ∨ i ∈ s.changedSites f guarded :=
  DispatchUnit.mem_commitSetpoints_dirty _ _

theorem State.committedUnit_sequence {s : State} {f : List (Nat × Int)} {guarded : List Nat}
    (h : s.changedSites f guarded ≠ []) : (s.committedUnit f guarded).sequence = s.dsp.sequence + 1#16 :=
  DispatchUnit.commitSetpoints_sequence h

theorem State.committedUnit_of_none {s : State} {f : List (Nat × Int)} {guarded : List Nat} (h : s.changedSites f guarded = []) :
    (s.committedUnit f guarded).sequence = s.dsp.sequence ∧ (s.committedUnit f guarded).dirty = s.dsp.dirty := by
  have heq : s.committedUnit f guarded = { s.dsp with
      groups := Table.tabulate {} Config.numGroups (s.committedGroup f guarded) } := DispatchUnit.commitSetpoints_of_none h
  rw [heq]
  exact ⟨rfl, rfl⟩

/-- Whether some group becomes short with the commit. -/
def State.newlyShort (s : State) (u : DispatchUnit) : Bool :=
  (List.range Config.numGroups).any (fun g => (u.group g).short && !(s.dsp.group g).short)

theorem State.newlyShort_iff {s : State} {u : DispatchUnit} : s.newlyShort u = true ↔
    ∃ g, g < 64 ∧ (u.group g).short = true ∧ (s.dsp.group g).short = false := by
  simp only [State.newlyShort, List.any_eq_true, List.mem_range, Bool.and_eq_true, Bool.not_eq_true']

theorem State.committedUnit_groups (s : State) (f : List (Nat × Int)) (guarded : List Nat) :
    (s.committedUnit f guarded).groups = Table.tabulate {} Config.numGroups (s.committedGroup f guarded) :=
  DispatchUnit.commitSetpoints_groups _ _

theorem State.committedUnit_group (s : State) (f : List (Nat × Int)) (guarded : List Nat) {g : Nat} (h : g < 64) :
    (s.committedUnit f guarded).group g = s.committedGroup f guarded g := by
  rw [DispatchUnit.group, s.committedUnit_groups]
  exact Table.get_tabulate.trans (if_pos h)

theorem State.dispatchCommit_raises (s : State) (f : List (Nat × Int)) (guarded : List Nat) :
    s.dispatchCommit f guarded = (State.raiseIf { s with dsp := s.committedUnit f guarded }
      (s.newlyShort (s.committedUnit f guarded)) .dispatchShort).raiseIf
      (s.dsp.dirty.isEmpty && !(s.committedUnit f guarded).dirty.isEmpty) .setpointsChanged := by
  have hshort : s.newlyShort (s.committedUnit f guarded) = (List.range Config.numGroups).any (fun g =>
      (Table.get ({} : GroupDispatch) (Table.tabulate {} Config.numGroups (s.committedGroup f guarded)) g).short
        && !(s.dsp.group g).short) := by
    unfold State.newlyShort
    rw [← s.committedUnit_groups f guarded]
    rfl
  rw [hshort]
  rfl

theorem State.count_withDsp (s : State) (d : DispatchUnit) (p : Port) (k : Notice) :
    State.count { s with dsp := d } p k = s.count p k := by cases p <;> rfl

theorem State.count_raiseIf_ne (s : State) (p : Port) (b : Bool) {k m : Notice} (h : m ≠ k) :
    (s.raiseIf b k).count p m = s.count p m := by
  rw [State.count_raiseIf, if_neg fun hall => h hall.2.1]

theorem State.count_raiseIf_self (s : State) (p : Port) (b : Bool) (k : Notice) : (s.raiseIf b k).count p k =
    if b = true ∧ k.routed p = true then min 255 (s.count p k + 1) else s.count p k := by
  rw [State.count_raiseIf]
  exact if_congr (by simp) rfl rfl

theorem State.count_dispatchCommit_short (s : State) (f : List (Nat × Int)) (guarded : List Nat) (p : Port) :
    (s.dispatchCommit f guarded).count p .dispatchShort =
      if s.newlyShort (s.committedUnit f guarded) = true ∧ p ≠ .market then min 255 (s.count p .dispatchShort + 1)
      else s.count p .dispatchShort := by
  have hroute : Notice.dispatchShort.routed p = true ↔ p ≠ .market := by cases p <;> decide
  rw [s.dispatchCommit_raises, State.count_raiseIf_ne _ _ _ (by decide), State.count_raiseIf_self, State.count_withDsp]
  exact if_congr (and_congr_right fun _ => hroute) rfl rfl

theorem State.count_dispatchCommit_changed (s : State) (f : List (Nat × Int)) (guarded : List Nat) :
    (s.dispatchCommit f guarded).count .fleet .setpointsChanged =
      if s.dsp.dirty = [] ∧ (s.committedUnit f guarded).dirty ≠ [] then min 255 (s.count .fleet .setpointsChanged + 1)
      else s.count .fleet .setpointsChanged := by
  have hroute : Notice.setpointsChanged.routed .fleet = true := rfl
  rw [s.dispatchCommit_raises, State.count_raiseIf_self, State.count_raiseIf_ne _ _ _ (by decide), State.count_withDsp]
  generalize s.committedUnit f guarded = u
  exact if_congr (by simp [hroute]) rfl rfl

/-- Settles O46: the commit's new groups are `committedGroup`s, and its setpoints those of `commitSetpoints`. -/
theorem dispatchCommitPublishesAndSplits : Obligations.DispatchCommitPublishesAndSplits := by
  intro s f guarded hs hcanon hj
  have hc : s.Canonical := s.canonical_iff.mp hcanon
  have hexec : exec .dispatch s = .next (s.dispatchCommit f guarded).endJob.choose := by
    have hdispatching : s.eng.dispatching = true := by rw [Engine.dispatching, hj]
    have hfinish : s.finishJob = (s.dispatchCommit f guarded).endJob := by
      rw [State.finishJob_of_single s _ hj nofun nofun, State.jobEvent, hj]
    exact congrArg _ ((State.act_running s _ hs).trans (by rw [if_pos hdispatching, hfinish]))
  obtain ⟨-, -, hmtu, hfrg, htiu, hcgr, hcmt, hacu, hdvu, -, hdsp⟩ := s.dispatchCommit_frame f guarded
  refine ⟨s.dispatchCommit f guarded, hexec, by simp, hcmt, hcgr, hacu, htiu, hfrg, hmtu, hdvu, ?_, fun g hg => ?_, ?_, ?_⟩
  · rw [hdsp]
    exact DispatchUnit.commitSetpoints_tickCount _ _
  · intro d backing total rounded computed starts published members capTot
    have hback : ∀ p, backing p = s.deliverySet.filter (fun r => r.product == p) := fun p => by
      cases hb : s.eng.bookInterval with
      | none => simp only [backing, State.deliverySet, hb, List.filter_nil]
      | some b =>
        simp only [backing, State.deliverySet, hb]
        rw [List.filter_filter]
        refine List.filter_congr fun x _ => ?_
        rw [Bool.eq_iff_iff]
        simp [Commitment.covers, and_left_comm]
    have htotal : s.groupSum f g = total := by simp only [total, hback]; rfl
    have hcomputed : s.computedTarget f g = computed := by
      rw [State.computedTarget, htotal, roundThousand_eq, clampInt]
      omega
    have hmask : s.contributors f g = (f.map (·.1)).filter (fun p => decide (∃ x ∈ backing p, x.hasShare g = true)) := by
      refine List.filter_congr fun p _ => ?_
      rw [hback, Bool.eq_iff_iff]
      simp [and_assoc]
    have hmembers : freshMembers s.tiu.sites g = members := List.filter_congr fun e _ => by
      rw [Bool.eq_iff_iff]
      simp
    have hcap : capTotal (s.tiu.capabilities g published) = capTot := by
      rw [capTotal, Intake.capabilities, hmembers, List.map_map]
      rfl
    rw [hdsp, s.committedUnit_group f guarded hg, State.committedGroup, hcomputed, GroupDispatch.publish_eq, hmask, ← hcap]
  · intro new differs
    have hnew : ∀ i, s.newSetpoint f guarded i = new i := fun i => by
      rw [State.newSetpoint, ← s.committedUnit_groups f guarded, ← hdsp]
      by_cases hg : ∃ g, s.tiu.splitGroup i g
      · obtain ⟨g, hfresh, hmember, hlt⟩ := hg
        rw [State.siteTargets_of_group hc.intake _ ⟨hfresh, hmember, hlt⟩]
        simp only [new, if_pos hfresh, hmember, if_pos hlt]
        rfl
      · rw [State.siteTargets_of_none hc.intake _ fun g hgroup => hg ⟨g, hgroup⟩]
        simp only [new]
        split
        · rename_i hfresh
          split
          · rename_i g hmember
            exact (if_neg fun hlt => hg ⟨g, hfresh, hmember, hlt⟩).symm
          · rfl
        · rfl
    have hchanged : ∀ i, i ∈ s.changedSites f guarded ↔ differs i := fun i =>
      State.mem_changedSites.trans (by rw [hnew])
    have hnone : (∀ i, ¬differs i) → s.changedSites f guarded = [] := fun h =>
      List.eq_nil_iff_forall_not_mem.mpr fun i hi => h i ((hchanged i).mp hi)
    have hsome {i : Nat} (h : differs i) : s.changedSites f guarded ≠ [] := List.ne_nil_of_mem ((hchanged i).mpr h)
    rw [hdsp, s.count_dispatchCommit_changed]
    refine ⟨fun ⟨i, h⟩ => State.committedUnit_sequence (hsome h), fun h => (State.committedUnit_of_none (hnone h)).1, fun i => ?_,
      fun i => (s.mem_committedUnit_dirty f guarded).trans (or_congr_right (hchanged i)), fun hempty ⟨i, h⟩ => ?_, fun h => ?_⟩
    · rw [s.committedUnit_setpoint, hnew]
      by_cases h : differs i
      · rw [if_pos h, if_pos ((hchanged i).mpr h)]
      · rw [if_neg h, if_neg fun hin => h ((hchanged i).mp hin)]
    · exact if_pos ⟨hempty, List.ne_nil_of_mem ((s.mem_committedUnit_dirty f guarded).mpr (.inr ((hchanged i).mpr h)))⟩
    · refine if_neg fun ⟨hempty, hdirty⟩ => h.elim (· hempty) fun hno => hdirty ?_
      rw [(State.committedUnit_of_none (hnone hno)).2, hempty]
  · intro newly
    have hnewly : s.newlyShort (s.committedUnit f guarded) = true ↔ newly := hdsp ▸ State.newlyShort_iff
    refine ⟨fun h p hp => ?_, fun h p => ?_, ?_⟩
    · rw [State.count_dispatchCommit_short, if_pos ⟨hnewly.mpr h, hp⟩]
    · rw [State.count_dispatchCommit_short, if_neg fun hall => h (hnewly.mp hall.1)]
    · rw [State.count_dispatchCommit_short, if_neg fun hall => hall.2 rfl]

end Sys2Proof.Machine
end

section
/-! PROOFS. ROLLOVER, event by event (6.4, 7.5): the test between boundaries and the stages of one boundary. -/
namespace Sys2Proof.Machine

/-! ### One event of the job -/

/-- An event after which the job goes on, at its next stage. -/
theorem exec_rollover_goes {s u : State} {st st' : RolloverStage} (hs : s.supply = .running)
    (hj : s.eng.job = some (.rollover st)) (h : s.rolloverEvent st = (u, some st')) :
    exec (.rollover .event) s = .next { u with eng := { u.eng with job := some (.rollover st') } } := by
  have hover : s.eng.rollingOver = true := by rw [Engine.rollingOver, hj]
  have hevent : s.jobEvent = { u with eng := { u.eng with job := some (.rollover st') } } := by
    rw [State.jobEvent, hj]
    dsimp only
    rw [h]
    rfl
  refine congrArg _ ((State.act_running s _ hs).trans ?_)
  rw [if_pos hover]
  exact (congrArg State.choose hevent).trans (State.choose_of_job _ _ rfl)

/-- An event that ends the job. -/
theorem exec_rollover_ends {s u : State} {st : RolloverStage} (hs : s.supply = .running)
    (hj : s.eng.job = some (.rollover st)) (h : s.rolloverEvent st = (u, none)) :
    exec (.rollover .event) s = .next u.endJob.choose := by
  have hover : s.eng.rollingOver = true := by rw [Engine.rollingOver, hj]
  have hevent : s.jobEvent = u.endJob := by
    rw [State.jobEvent, hj]
    dsimp only
    rw [h]
    rfl
  refine congrArg _ ((State.act_running s _ hs).trans ?_)
  rw [if_pos hover]
  exact congrArg State.choose hevent

/-! ### The stages -/

/-- A raise of DISPATCH abandons ADMISSION jobs only. -/
theorem State.raiseDispatch_of_kept {s : State} {j : Job} (hj : s.eng.job = some j) (hno : ∀ r, j ≠ .admission r) :
    s.raiseDispatch = { s with eng := { s.eng with dispatch := s.eng.dispatch.raised } } := by
  cases j with
  | admission r => exact absurd rfl (hno r)
  | _ => simp only [State.raiseDispatch, Engine.abandoned, hj]

theorem pairsOver_one (i : Nat) : pairsOver i 1 = (List.range 64).map (fun g => (i, g)) := by
  simp [pairsOver, List.range'_one]

theorem State.awardedNow_iff {s : State} {b p : Nat} (hb : s.eng.bookInterval = some b) : s.awardedNow p = true ↔
    ∃ x ∈ s.cmt.records, x.product = p ∧ x.state = .awarded ∧ x.first ≤ b ∧ b ≤ x.last := by
  simp only [State.awardedNow, State.deliverySet, hb, List.any_eq_true, List.mem_filter, Bool.and_eq_true, beq_iff_eq,
    Commitment.covers, decide_eq_true_eq]
  exact ⟨fun ⟨x, ⟨hx, hst, hr⟩, hp⟩ => ⟨x, hx, hp, hst, hr⟩, fun ⟨x, hx, hp, hst, hr⟩ => ⟨x, ⟨hx, hst, hr⟩, hp⟩⟩

theorem State.unsupported_eq {s : State} {b : Nat} (hb : s.eng.bookInterval = some b) : s.unsupported =
    (s.acu.records.map (·.product)).filter (fun p => decide (¬∃ x ∈ s.cmt.records,
      x.product = p ∧ x.state = .awarded ∧ x.first ≤ b ∧ b ≤ x.last)) := by
  refine List.filter_congr fun p _ => ?_
  rw [Bool.eq_iff_iff, Bool.not_eq_true', decide_eq_true_eq, ← State.awardedNow_iff hb, Bool.not_eq_true]

theorem Grid.retire_entry_retired (c : Grid) (b : Nat) {g : Nat} (hg : g < 64) : (c.retire b).entry g b = {} :=
  (c.retire_entry b g b hg).trans (if_pos rfl)

theorem Grid.retire_entry_later (c : Grid) {b g i : Nat} (hg : g < 64) (hi : b < i ∧ i < b + 96) :
    (c.retire b).entry g i = c.entry g i := by
  refine (c.retire_entry b g i hg).trans (if_neg ?_)
  simp only [Config.horizon]
  omega

/-- Settles O40: each stage's equation of `rolloverEvent`. -/
theorem rolloverWorksItsStages : Obligations.RolloverWorksItsStages := by
  intro s hs at_ goes
  refine ⟨fun hj hb => ?_, fun b hj hb hlt => ?_, fun b hj hb hle => ?_, fun a b hj hb => ?_, fun a b hj hb => ?_,
    fun a p ps hj => ?_, fun a hj => ?_, fun a b hj hb => ?_, fun b hj hb => ?_, fun hj => ?_⟩
  · exact exec_rollover_goes hs hj (by rw [State.rolloverEvent.eq_def, hb]; rfl)
  · exact exec_rollover_goes hs hj (by rw [State.rolloverEvent.eq_def, hb]; exact if_pos hlt)
  · exact exec_rollover_ends hs hj (by rw [State.rolloverEvent.eq_def, hb]; exact if_neg (Nat.not_lt.mpr hle))
  · refine ⟨s.cgr.retire b, ?_, rfl, rfl, fun g hg => s.cgr.retire_entry_retired b hg,
      fun g i hg hlow hhigh => s.cgr.retire_entry_later hg ⟨hlow, hhigh⟩⟩
    exact exec_rollover_goes hs hj (by rw [State.rolloverEvent.eq_def, hb]; rfl)
  · refine exec_rollover_goes hs hj ?_
    rw [State.rolloverEvent, ← State.unsupported_eq hb]
  · exact exec_rollover_goes hs hj (by rw [State.rolloverEvent]; rfl)
  · exact exec_rollover_goes hs hj (by rw [State.rolloverEvent])
  · exact exec_rollover_goes hs hj (by rw [State.rolloverEvent.eq_def, hb]; rfl)
  · refine exec_rollover_goes hs hj ?_
    rw [State.rolloverEvent.eq_def, hb, ← pairsOver_one]
    rfl
  · refine (exec_rollover_goes hs hj (by rw [State.rolloverEvent])).trans ?_
    rw [State.raiseDispatch_of_kept hj nofun]

end Sys2Proof.Machine
end

section
/-! PROOFS. ROLLOVER's completion and expiry stages (7.5), and the settlement figures (11.7). -/
namespace Sys2Proof.Machine

/-! ### Counts of a stage's raises -/

/-- A stage that raises a kind once for each element counts them, up to 255. -/
theorem State.count_foldl_raised {α : Type} (f : State → α → State) (p : Port) (k : Notice)
    (hf : ∀ s x, (f s x).count p k = min 255 (s.count p k + 1)) (l : List α) (s : State) :
    (l.foldl f s).count p k = if l.length = 0 then s.count p k else min 255 (s.count p k + l.length) := by
  induction l generalizing s with
  | nil => rfl
  | cons x t ih =>
    rw [List.foldl_cons, ih, hf, List.length_cons, if_neg (Nat.succ_ne_zero _)]
    split <;> omega

/-! ### A completing record (R104, R163) -/

/-- The figures of a record that completes, from the accounts read. -/
def Commitment.figuresFrom (accounts : Table Account) (r : Commitment) : Figures :=
  settlementFigures r.quantity (r.snapshot.getD {}) (accountOf accounts r.product)

/-- A record that finds the queue full. -/
def Commitment.settlingWith (accounts : Table Account) (r : Commitment) : Commitment :=
  { r with state := .settling, figures := some (r.figuresFrom accounts) }

/-- What completing one record does to the table. -/
def Commitments.complete (accounts : Table Account) (c : Commitments) (r : Commitment) : Commitments :=
  if c.queue.length < 64 then c.settle r (r.figuresFrom accounts) else c.replace (r.settlingWith accounts)

theorem State.completeRecord_cmt (accounts : Table Account) (s : State) (r : Commitment) :
    (s.completeRecord accounts r).cmt = s.cmt.complete accounts r := State.raise_cmt _ _

theorem State.foldl_completeRecord_cmt (accounts : Table Account) (l : List Commitment) (s : State) :
    (l.foldl (State.completeRecord accounts) s).cmt = l.foldl (Commitments.complete accounts) s.cmt := by
  induction l generalizing s with
  | nil => rfl
  | cons r t ih => rw [List.foldl_cons, ih, State.completeRecord_cmt, List.foldl_cons]

theorem State.completeRecord_count (accounts : Table Account) (s : State) (r : Commitment) :
    (s.completeRecord accounts r).count .market .settlement = min 255 (s.count .market .settlement + 1) := by
  refine (State.count_raise _ _ _ _).trans ((if_pos ⟨rfl, rfl⟩).trans ?_)
  rfl

/-- While the queue has room for all of them, the records go there. -/
theorem Commitments.foldl_complete_room (accounts : Table Account) {l : List Commitment} {c : Commitments}
    (h : c.queue.length + l.length ≤ 64) :
    l.foldl (Commitments.complete accounts) c = l.foldl (fun c r => c.settle r (r.figuresFrom accounts)) c := by
  induction l generalizing c with
  | nil => rfl
  | cons r t ih =>
    rw [List.length_cons] at h
    have hroom : c.queue.length < 64 := by omega
    have hqueue : (c.settle r (r.figuresFrom accounts)).queue.length = c.queue.length + 1 := by
      simp [Commitments.settle]
    rw [List.foldl_cons, List.foldl_cons, Commitments.complete, if_pos hroom]
    exact ih (by omega)

/-- Once the queue is full, the records become SETTLING. -/
theorem Commitments.foldl_complete_full (accounts : Table Account) {l : List Commitment} {c : Commitments}
    (h : 64 ≤ c.queue.length) :
    l.foldl (Commitments.complete accounts) c = l.foldl (fun c r => c.replace (r.settlingWith accounts)) c := by
  induction l generalizing c with
  | nil => rfl
  | cons r t ih =>
    rw [List.foldl_cons, List.foldl_cons, Commitments.complete, if_neg (Nat.not_lt.mpr h)]
    exact ih h

/-- Records replaced one by one, under their own ids. -/
theorem Commitments.foldl_replace (g : Commitment → Commitment) (hg : ∀ r, (g r).id = r.id) {l : List Commitment}
    (hids : (l.map (·.id)).Nodup) {c : Commitments} (hown : ∀ x ∈ c.records, ∀ r ∈ l, x.id = r.id → x = r) :
    l.foldl (fun c r => c.replace (g r)) c = { c with records := c.records.map (fun x => if x ∈ l then g x else x) } := by
  induction l generalizing c with
  | nil => simp
  | cons r t ih =>
    obtain ⟨hr, ht⟩ := List.nodup_cons.mp hids
    have hgone : ∀ x ∈ t, x.id ≠ r.id := fun x hx heq => hr (List.mem_map.mpr ⟨x, hx, heq⟩)
    have hpoint : ∀ x ∈ c.records, (if (if x.id = (g r).id then g r else x) ∈ t then g (if x.id = (g r).id then g r else x)
        else if x.id = (g r).id then g r else x) = if x ∈ r :: t then g x else x := fun x hx => by
      by_cases hid : x.id = r.id
      · obtain rfl := hown x hx r List.mem_cons_self hid
        rw [if_pos (hg x).symm, if_neg fun hin => hgone _ hin (hg x), if_pos List.mem_cons_self]
      · have hne : ¬x.id = (g r).id := fun heq => hid (heq.trans (hg r))
        rw [if_neg hne]
        refine if_congr ⟨List.mem_cons_of_mem r, fun hin => (List.mem_cons.mp hin).resolve_left ?_⟩ rfl rfl
        rintro rfl
        exact hid rfl
    have hown' : ∀ x ∈ (c.replace (g r)).records, ∀ y ∈ t, x.id = y.id → x = y := fun x hx y hy hid => by
      obtain ⟨z, hz, rfl⟩ := List.mem_map.mp hx
      by_cases hzr : z.id = (g r).id
      · rw [if_pos hzr, hg] at hid
        exact absurd hid.symm (hgone y hy)
      · rw [if_neg hzr] at hid ⊢
        exact hown z hz y (List.mem_cons_of_mem r hy) hid
    rw [List.foldl_cons, ih ht hown']
    exact congrArg (fun l => ({ c with records := l } : Commitments)) ((List.map_map).trans (List.map_congr_left hpoint))

/-- The table that a stage of completions leaves: the queue takes the records it has room for, the others are SETTLING. -/
theorem Commitments.Fits.foldl_complete {c : Commitments} (h : c.Fits) (accounts : Table Account) {l : List Commitment}
    (hl : l.Sublist c.records) :
    l.foldl (Commitments.complete accounts) c =
      { (l.take (64 - c.queue.length)).foldl (fun c r => c.settle r (r.figuresFrom accounts)) c with
        records := (c.records.filter (fun x => decide (x ∉ l.take (64 - c.queue.length)))).map (fun x =>
          if x ∈ l then x.settlingWith accounts else x) } := by
  obtain ⟨front, hfront⟩ : ∃ front, front = l.take (64 - c.queue.length) := ⟨_, rfl⟩
  obtain ⟨rest, hrest⟩ : ∃ rest, rest = l.drop (64 - c.queue.length) := ⟨_, rfl⟩
  have hsplit : l = front ++ rest := by rw [hfront, hrest, List.take_append_drop]
  have hroom : c.queue.length + front.length ≤ 64 := by
    have := h.queue_room
    simp only [Config.settlementCapacity] at this
    rw [hfront, List.length_take]
    omega
  let d := front.foldl (fun c r => c.settle r (r.figuresFrom accounts)) c
  have hqueue : d.queue.length = c.queue.length + front.length := by
    simp only [d, Commitments.foldl_settle_queue, List.length_append, List.length_map]
  have hrecords : d.records = c.records.filter (fun x => decide (x ∉ front)) :=
    (Commitments.foldl_settle_records _ _ _).trans (h.filter_ids fun r hr => hl.subset (hsplit ▸ List.mem_append_left rest hr))
  have hids : (l.map (·.id)).Nodup := (List.pairwise_map.mpr (h.record_order.imp fun hlt => hlt.ne)).sublist (hl.map _)
  have hfull : rest.foldl (Commitments.complete accounts) d = rest.foldl (fun c r => c.replace (r.settlingWith accounts)) d := by
    by_cases hle : l.length ≤ 64 - c.queue.length
    · rw [hrest, List.drop_eq_nil_of_le hle]
      rfl
    · refine Commitments.foldl_complete_full accounts ?_
      rw [hqueue, hfront, List.length_take]
      omega
  have hin : ∀ x ∈ d.records, x ∉ front := fun x hx => by
    rw [hrecords] at hx
    exact of_decide_eq_true (List.mem_filter.mp hx).2
  have hrestIds : (rest.map (·.id)).Nodup := hids.sublist ((hrest ▸ List.drop_sublist _ _).map _)
  have hown : ∀ x ∈ d.records, ∀ r ∈ rest, x.id = r.id → x = r := fun x hx r hr hid => by
    rw [hrecords] at hx
    exact h.id_inj (List.mem_of_mem_filter hx) (hl.subset (hsplit ▸ List.mem_append_right front hr)) hid
  rw [← hfront]
  calc l.foldl (Commitments.complete accounts) c
      = rest.foldl (Commitments.complete accounts) d := by
        conv_lhs => rw [hsplit, List.foldl_append, Commitments.foldl_complete_room accounts hroom]
    _ = { d with records := d.records.map (fun x => if x ∈ rest then x.settlingWith accounts else x) } :=
        hfull.trans (Commitments.foldl_replace (Commitment.settlingWith accounts) (fun _ => rfl) hrestIds hown)
    _ = _ := by
        rw [← hrecords]
        refine congrArg (fun m => ({ d with records := m } : Commitments)) (List.map_congr_left fun x hx => ?_)
        refine if_congr ⟨fun hr => hsplit ▸ List.mem_append_right front hr, fun hr => ?_⟩ rfl rfl
        rw [hsplit] at hr
        exact (List.mem_append.mp hr).resolve_left (hin x hx)

/-- The records that complete with interval `b`. -/
def Commitments.due (c : Commitments) (b : Nat) : List Commitment :=
  c.records.filter (fun x => decide (x.state = .awarded ∧ x.last = b))

theorem State.stageCompletion_eq (s : State) (accounts : Table Account) (b : Nat) :
    s.stageCompletion accounts b = (s.cmt.due b).foldl (State.completeRecord accounts) s := by
  have hdue : s.cmt.records.filter (fun r => r.state == .awarded && r.last == b) = s.cmt.due b :=
    List.filter_congr fun x _ => by
      rw [Bool.eq_iff_iff]
      simp
  rw [State.stageCompletion, hdue]

theorem State.stageCompletion_cmt {s : State} (h : s.cmt.Fits) (accounts : Table Account) (b : Nat) :
    (s.stageCompletion accounts b).cmt =
      { ((s.cmt.due b).take (64 - s.cmt.queue.length)).foldl (fun c r => c.settle r (r.figuresFrom accounts)) s.cmt with
        records := (s.cmt.records.filter (fun x => decide (x ∉ (s.cmt.due b).take (64 - s.cmt.queue.length)))).map (fun x =>
          if x ∈ s.cmt.due b then x.settlingWith accounts else x) } := by
  rw [s.stageCompletion_eq, State.foldl_completeRecord_cmt]
  exact h.foldl_complete accounts List.filter_sublist

/-- ROLLOVER at its completion stage. -/
theorem exec_completion {s : State} {a : Table Account} {b : Nat} (hs : s.supply = .running) (hb : s.eng.bookInterval = some b)
    (hj : s.eng.job = some (.rollover (.completion a))) : exec (.rollover .event) s =
      .next { s.stageCompletion a b with eng := { s.eng with job := some (.rollover (.retirement a)) } } := by
  refine (exec_rollover_goes hs hj (by rw [State.rolloverEvent.eq_def, hb])).trans ?_
  rw [Option.getD_some, (s.stageCompletion_eng a b).1]

/-! ### What a stage does but for its notices -/

/-- A state without what its ports hold. -/
def State.erased (s : State) : State := { s with market := {}, grid := {}, fleet := {} }

theorem State.raise_erased (s : State) (k : Notice) : (s.raise k).erased = s.erased := by
  cases k <;> rfl

theorem State.raiseIf_erased (s : State) (b : Bool) (k : Notice) : (s.raiseIf b k).erased = s.erased := by
  cases b
  · rfl
  · exact s.raise_erased k

theorem State.rescan_erased (s : State) (scope : List (Nat × Nat)) : (s.erased.rescan scope).erased = (s.rescan scope).erased := by
  have hb : s.erased.eng.bookInterval = s.eng.bookInterval := rfl
  have ho : s.erased.cgr.overflow = s.cgr.overflow := rfl
  unfold State.rescan
  rw [hb, ho]
  cases s.eng.bookInterval with
  | none => rfl
  | some b =>
    dsimp only
    split
    · simp only [State.fullScan, State.raiseIf_erased]
      rfl
    · simp only [State.scopeRescan, State.raiseIf_erased]
      rfl

theorem State.dropCommitment_erased (s : State) (r : Commitment) :
    (s.erased.dropCommitment r).erased = (s.dropCommitment r).erased :=
  State.rescan_erased { s.subtractLoads r with cmt := (s.subtractLoads r).cmt.remove r.id } (s.sharePairs r.first r.count r.shares)

/-- The grid that the removals leave is the same without the notices they raise. -/
theorem State.foldl_drop_cgr (l : List Commitment) {s t : State} (h : s.erased = t.erased) :
    (l.foldl (fun t r => (t.dropCommitment r).raise .holdExpired) s).cgr = (l.foldl (fun t r => t.dropCommitment r) t).cgr := by
  induction l generalizing s t with
  | nil =>
    have hcgr : s.erased.cgr = t.erased.cgr := congrArg State.cgr h
    exact hcgr
  | cons r l ih =>
    refine ih ?_
    rw [State.raise_erased, ← s.dropCommitment_erased, ← t.dropCommitment_erased, h]

/-- Each load after the removals (R67). -/
theorem State.foldl_drop_entry {b g i : Nat} (hg : g < 64) (hi : b ≤ i ∧ i < b + 96) {l : List Commitment} {s : State}
    (hb : s.eng.bookInterval = some b) (hordered : ∀ x ∈ l, x.shares.Pairwise (fun y z => y.group < z.group))
    (hgroups : ∀ x ∈ l, ∀ y ∈ x.shares, y.group < 64) :
    (l.foldl (fun t x => t.dropCommitment x) s).cgr.entry g i = ⟨(s.cgr.entry g i).forecast,
      (l.filter (fun x => decide (x.first ≤ i ∧ i < x.first + x.count))).foldl
        (fun l x => l.sub (contribution (s.product x.product) (x.shareIn g))) (s.cgr.entry g i).load⟩ := by
  induction l generalizing s with
  | nil => rfl
  | cons x t ih =>
    have hproduct : ∀ p, (s.dropCommitment x).product p = s.product p := fun p => by simp [State.product, Commitments.remove]
    have hrest := ih (s := s.dropCommitment x) (by rwa [s.dropCommitment_eng]) (fun y hy => hordered y (List.mem_cons_of_mem x hy))
      fun y hy => hgroups y (List.mem_cons_of_mem x hy)
    rw [List.foldl_cons, hrest, State.dropCommitment_entry hb hg hi (hordered x List.mem_cons_self) (hgroups x List.mem_cons_self)]
    simp only [hproduct]
    by_cases hcov : x.first ≤ i ∧ i < x.first + x.count
    · simp [hcov]
    · simp [hcov]

theorem State.rescan_count (s : State) (scope : List (Nat × Nat)) (p : Port) {k : Notice} (hk : k ≠ .deficit) :
    (s.rescan scope).count p k = s.count p k := by
  unfold State.rescan
  cases s.eng.bookInterval with
  | none => rfl
  | some b =>
    dsimp only
    split
    · refine (State.count_raiseIf_ne _ p _ hk).trans (State.count_congr ?_ k)
      cases p <;> rfl
    · refine (State.count_raiseIf_ne _ p _ hk).trans (State.count_congr ?_ k)
      cases p <;> rfl

theorem State.dropCommitment_count (s : State) (r : Commitment) (p : Port) {k : Notice} (hk : k ≠ .deficit) :
    (s.dropCommitment r).count p k = s.count p k := by
  refine (State.rescan_count _ _ p hk).trans (State.count_congr ?_ k)
  cases p <;> rfl

/-! ### A stage of expiries (R106) -/

/-- The HELD records that expire once the gate has passed `lim`. -/
def Commitments.expired (c : Commitments) (lim : Nat) : List Commitment :=
  c.records.filter (fun x => decide (x.state = .held ∧ x.first ≤ lim))

theorem State.stageExpiry_eq (s : State) (b : Nat) : s.stageExpiry b =
    (s.cmt.expired (b + s.eng.settings.lead)).foldl (fun t r => (t.dropCommitment r).raise .holdExpired) s := by
  have hexpired : s.cmt.records.filter (fun r => r.state == .held && decide (r.first ≤ b + s.eng.settings.lead))
      = s.cmt.expired (b + s.eng.settings.lead) := List.filter_congr fun x _ => by
    rw [Bool.eq_iff_iff]
    simp
  rw [State.stageExpiry, hexpired]

theorem State.foldl_expiry_cmt (l : List Commitment) (s : State) :
    (l.foldl (fun t r => (t.dropCommitment r).raise .holdExpired) s).cmt = l.foldl (fun c r => c.remove r.id) s.cmt := by
  induction l generalizing s with
  | nil => rfl
  | cons r t ih =>
    have hone : ((s.dropCommitment r).raise .holdExpired).cmt = s.cmt.remove r.id := by simp
    rw [List.foldl_cons, ih, hone, List.foldl_cons]

theorem State.expiry_count (s : State) (r : Commitment) : ((s.dropCommitment r).raise .holdExpired).count .market .holdExpired
    = min 255 (s.count .market .holdExpired + 1) := by
  rw [State.count_raise, if_pos ⟨rfl, rfl⟩, State.dropCommitment_count _ _ _ (by decide)]

theorem Commitments.foldl_remove_records (l : List Commitment) (c : Commitments) :
    (l.foldl (fun c r => c.remove r.id) c).records = c.records.filter (fun x => decide (∀ r ∈ l, x.id ≠ r.id)) := by
  induction l generalizing c with
  | nil => simp
  | cons r t ih =>
    have hone : (c.remove r.id).records = c.records.filter (fun x => x.id != r.id) := rfl
    rw [List.foldl_cons, ih, hone, List.filter_filter]
    refine List.filter_congr fun x _ => ?_
    rw [Bool.eq_iff_iff]
    simp [and_comm]

theorem Commitments.foldl_remove_queue (l : List Commitment) (c : Commitments) :
    (l.foldl (fun c r => c.remove r.id) c).queue = c.queue
    ∧ (l.foldl (fun c r => c.remove r.id) c).products = c.products := by
  induction l generalizing c with
  | nil => exact ⟨rfl, rfl⟩
  | cons r t ih => exact ih (c.remove r.id)

/-- ROLLOVER at its expiry stage. -/
theorem exec_expiry {s : State} {a : Table Account} {b : Nat} (hs : s.supply = .running) (hb : s.eng.bookInterval = some b)
    (hj : s.eng.job = some (.rollover (.expiry a))) : exec (.rollover .event) s =
      .next { s.stageExpiry b with eng := { s.eng with job := some (.rollover (.support a)) } } := by
  refine (exec_rollover_goes hs hj (by rw [State.rolloverEvent.eq_def, hb])).trans ?_
  rw [Option.getD_some, (s.stageExpiry_eng b).1]

theorem Commitments.Fits.ids_of_sublist {c : Commitments} (h : c.Fits) {l : List Commitment} (hl : l.Sublist c.records) :
    (l.map (·.id)).Nodup := (List.pairwise_map.mpr (h.record_order.imp fun hlt => hlt.ne)).sublist (hl.map _)

/-- Settles O41: the completion stage's table, and the expiry stage's removals. -/
theorem rolloverCompletesAndExpires : Obligations.RolloverCompletesAndExpires := by
  intro s a b hs hbook hb counted
  have hfits := hbook.table
  refine ⟨?_, ?_⟩
  · intro hj due room figures
    have hcmt : (s.stageCompletion a b).cmt = _ := State.stageCompletion_cmt hfits a b
    have hfront : (due.take room).Sublist s.cmt.records := (List.take_sublist _ _).trans List.filter_sublist
    obtain ⟨-, -, -, -, hcgr, hacu, hdsp, -, -, hproducts⟩ := s.stageCompletion_frame a b
    refine ⟨_, exec_completion hs hb hj, rfl, ?_, congrArg Commitments.records hcmt, fun i => ?_, hproducts, hcgr, hacu, hdsp,
      (s.stageCompletion_eng a b).2, ?_⟩
    · exact (congrArg Commitments.queue hcmt).trans (Commitments.foldl_settle_queue _ _ _)
    · refine (congrArg (fun c => c.issue i) hcmt).trans ?_
      exact Commitments.foldl_issue (fun c r => c.settle_issue r (figures r)) s.cmt (hfits.ids_of_sublist hfront) i
    · have hcount := State.count_foldl_raised (State.completeRecord a) .market .settlement (State.completeRecord_count a) due s
      exact (congrArg (fun u : State => u.count .market .settlement) (s.stageCompletion_eq a b)).trans hcount
  · intro hj due
    have hdue : due.Sublist s.cmt.records := List.filter_sublist
    have hcmt : (s.stageExpiry b).cmt = due.foldl (fun c r => c.remove r.id) s.cmt := by
      rw [s.stageExpiry_eq]
      exact State.foldl_expiry_cmt _ _
    have hcgr : (s.stageExpiry b).cgr = (due.foldl (fun t x => t.dropCommitment x) s).cgr := by
      rw [s.stageExpiry_eq]
      exact State.foldl_drop_cgr _ rfl
    obtain ⟨hqueue, hproducts⟩ := Commitments.foldl_remove_queue due s.cmt
    have hrecords := (Commitments.foldl_remove_records due s.cmt).trans (hfits.filter_ids fun r hr => hdue.subset hr)
    refine ⟨_, exec_expiry hs hb hj, rfl, (congrArg Commitments.queue hcmt).trans hqueue,
      (congrArg Commitments.products hcmt).trans hproducts, (congrArg Commitments.records hcmt).trans hrecords, fun i => ?_, hcgr,
      fun hgroups g i hg hlow hhigh => ?_, ?_, ?_, (s.stageExpiry_eng b).2, ?_⟩
    · refine (congrArg (fun c => c.issue i) hcmt).trans ?_
      exact Commitments.foldl_issue (fun c r => c.remove_issue r.id) s.cmt (hfits.ids_of_sublist hdue) i
    · refine (congrArg (fun c => c.entry g i) hcgr).trans ?_
      exact State.foldl_drop_entry hg ⟨hlow, hhigh⟩ hb (fun x hx => hfits.share_order x (hdue.subset hx)) hgroups
    · exact (s.stageExpiry_frame b).2.2.2.2.1
    · exact (s.stageExpiry_frame b).2.2.2.2.2.1
    · have hcount := State.count_foldl_raised (fun t r => (State.dropCommitment t r).raise .holdExpired) .market .holdExpired
        State.expiry_count due s
      exact (congrArg (fun u : State => u.count .market .holdExpired) (s.stageExpiry_eq b)).trans hcount

/-! ### The figures (R163) -/

theorem settlementFigures_energy (q : Nat) (shot now : Account) : (settlementFigures q shot now).energy =
    min 65535 (q * ((now.fractionTicks.toNat + 2 ^ 48 - shot.fractionTicks.toNat) % 2 ^ 48) / 36000000) := by
  have hdelta : (now.fractionTicks - shot.fractionTicks).toNat
      = (now.fractionTicks.toNat + 2 ^ 48 - shot.fractionTicks.toNat) % 2 ^ 48 := by
    rw [BitVec.toNat_sub]
    have := shot.fractionTicks.isLt
    congr 1
    omega
  rw [← hdelta]
  rfl

theorem settlementFigures_ticks (q : Nat) (shot now : Account) : (settlementFigures q shot now).activeTicks.toNat =
    (now.activeTicks.toNat + 2 ^ 32 - shot.activeTicks.toNat) % 2 ^ 32 := by
  refine (BitVec.toNat_sub _ _).trans ?_
  have := shot.activeTicks.isLt
  congr 1
  omega

/-- Settles O42: a completing record is among those the queue takes, with its figures, or stays as one SETTLING with them. -/
theorem settlementFiguresAreWorkedAtCompletion : Obligations.SettlementFiguresAreWorkedAtCompletion := by
  refine ⟨fun s a b x shot hs hbook hb hj hx hst hlast hshot => ?_, by decide, by decide⟩
  intro now delta energy ticks
  have hfigures : x.figuresFrom a = settlementFigures x.quantity shot now := by
    rw [Commitment.figuresFrom, hshot]
    rfl
  have henergy : (x.figuresFrom a).energy = energy := by
    rw [hfigures]
    exact settlementFigures_energy _ _ _
  have hticks : (x.figuresFrom a).activeTicks.toNat = ticks := by
    rw [hfigures]
    exact settlementFigures_ticks _ _ _
  have hdue : x ∈ s.cmt.due b := List.mem_filter.mpr ⟨hx, decide_eq_true ⟨hst, hlast⟩⟩
  have hcmt := State.stageCompletion_cmt hbook.table a b
  refine ⟨_, exec_completion hs hb hj, ?_⟩
  by_cases hfront : x ∈ (s.cmt.due b).take (64 - s.cmt.queue.length)
  · refine .inl ⟨x.settled (x.figuresFrom a), ?_, rfl, rfl, henergy, hticks⟩
    change _ ∈ (s.stageCompletion a b).cmt.queue
    rw [hcmt]
    dsimp only
    rw [Commitments.foldl_settle_queue]
    exact List.mem_append_right _ (List.mem_map.mpr ⟨x, hfront, rfl⟩)
  · refine .inr ⟨x.settlingWith a, ?_, rfl, rfl, x.figuresFrom a, rfl, henergy, hticks⟩
    change _ ∈ (s.stageCompletion a b).cmt.records
    rw [hcmt]
    exact List.mem_map.mpr ⟨x, List.mem_filter.mpr ⟨hx, decide_eq_true hfront⟩, if_pos hdue⟩

end Sys2Proof.Machine
end

section
/-! PROOFS. The whole ROLLOVER row (6.4, 7.5): how many events its job has left at most, and what it has worked at its end. -/
namespace Sys2Proof.Machine

/-! ### What the events of a ROLLOVER job keep -/

/-- What no event of a ROLLOVER job changes. -/
structure State.RolloverKeeps (s t : State) : Prop where
  mtu : t.mtu = s.mtu
  frg : t.frg = s.frg
  tiu : t.tiu = s.tiu
  dsp : t.dsp = s.dsp
  dvu : t.dvu = s.dvu
  products : t.cmt.products = s.cmt.products
  accounts : t.acu.accounts = s.acu.accounts
  activations : t.acu.records.length = s.acu.records.length
  settings : t.eng.settings = s.eng.settings

theorem State.RolloverKeeps.refl (s : State) : s.RolloverKeeps s := ⟨rfl, rfl, rfl, rfl, rfl, rfl, rfl, rfl, rfl⟩

theorem State.RolloverKeeps.trans {s t u : State} (h : s.RolloverKeeps t) (h' : t.RolloverKeeps u) : s.RolloverKeeps u :=
  ⟨h'.mtu.trans h.mtu, h'.frg.trans h.frg, h'.tiu.trans h.tiu, h'.dsp.trans h.dsp, h'.dvu.trans h.dvu,
    h'.products.trans h.products, h'.accounts.trans h.accounts, h'.activations.trans h.activations, h'.settings.trans h.settings⟩

theorem State.raiseDispatch_settings (s : State) : s.raiseDispatch.eng.settings = s.eng.settings := by
  simp only [State.raiseDispatch, Engine.abandoned]
  split
  · split <;> rfl
  · rfl

theorem State.rolloverEvent_keeps (s : State) (st : RolloverStage) : s.RolloverKeeps (s.rolloverEvent st).1 := by
  obtain ⟨-, -, hmtu, hfrg, htiu, hdsp, hdvu, -, hproducts⟩ := s.rolloverEvent_units st
  refine ⟨hmtu, hfrg, htiu, hdsp, hdvu, hproducts, ?_, ?_, ?_⟩
  all_goals
    unfold State.rolloverEvent
    split
    case h_2 => split <;> rfl
    all_goals simp [State.initRing, State.stageRetirement, State.orderIntervalEnd, State.raiseDispatch_settings]

/-! ### The events left -/

/-- The events from a stage to the next test between boundaries, with `n` activation records. -/
def RolloverStage.eventsToTest (n : Nat) : RolloverStage → Nat
  | .between => 0
  | .raise => 1
  | .nearRescan => 2
  | .snapshots _ => 3
  | .intervalEnd _ ps => 4 + ps.length
  | .support _ => n + 5
  | .expiry _ => n + 6
  | .retirement _ => n + 7
  | .completion _ => n + 8

/-- Whether a stage stands before the retirement of its interval. -/
def RolloverStage.beforeRetirement : RolloverStage → Bool
  | .completion _ | .retirement _ => true
  | _ => false

/-- The boundaries that a job at a stage has yet to begin. -/
def State.boundariesLeft (s : State) (st : RolloverStage) : Nat :=
  s.mtu.clock - s.eng.bookInterval.getD s.mtu.origin - if st.beforeRetirement then 1 else 0

/-- A bound of the events that a job at a stage has left. -/
def State.eventsBound (s : State) (st : RolloverStage) : Nat :=
  s.boundariesLeft st * (s.acu.records.length + 12) + st.eventsToTest s.acu.records.length
    + if s.eng.bookInterval.isSome then 1 else 2

theorem State.unsupported_length (s : State) : s.unsupported.length ≤ s.acu.records.length := by
  refine (List.length_filter_le _ _).trans ?_
  rw [List.length_map]

theorem State.RolloverKeeps.eventsBound {s t : State} (h : s.RolloverKeeps t) (hb : t.eng.bookInterval = s.eng.bookInterval)
    (st : RolloverStage) : t.eventsBound st = s.eventsBound st := by
  rw [State.eventsBound, State.eventsBound, State.boundariesLeft, State.boundariesLeft, h.mtu, h.activations, hb]

theorem State.eventsBound_lt_of_stage {s : State} {st st' : RolloverStage} (hsame : st'.beforeRetirement = st.beforeRetirement)
    (hlt : st'.eventsToTest s.acu.records.length < st.eventsToTest s.acu.records.length) :
    s.eventsBound st' < s.eventsBound st := by
  rw [State.eventsBound, State.eventsBound, State.boundariesLeft, State.boundariesLeft, hsame]
  omega

/-- Every event leaves fewer. -/
theorem State.eventsBound_lt {s : State} {st st' : RolloverStage} (h : s.TimeInv) (hj : s.eng.job = some (.rollover st))
    (h' : (s.rolloverEvent st).2 = some st') : (s.rolloverEvent st).1.eventsBound st' < s.eventsBound st := by
  have hkeeps := s.rolloverEvent_keeps st
  have hstage {u : RolloverStage} (hgoes : (s.rolloverEvent st).2 = some u) : st' = u := Option.some.inj (h'.symm.trans hgoes)
  have hstands (hb : (s.rolloverEvent st).1.eng.bookInterval = s.eng.bookInterval) (hlt : s.eventsBound st' < s.eventsBound st) :
      (s.rolloverEvent st).1.eventsBound st' < s.eventsBound st := by rwa [hkeeps.eventsBound hb]
  cases st with
  | between =>
    cases hb : s.eng.bookInterval with
    | none =>
      have hevent : s.rolloverEvent .between = (s.initRing, some .between) := by rw [State.rolloverEvent.eq_def, hb]
      obtain rfl := hstage (congrArg Prod.snd hevent)
      rw [hevent, State.eventsBound, State.eventsBound, State.boundariesLeft, State.boundariesLeft, hb]
      exact Nat.lt_succ_self _
    | some b =>
      have hlt : b < s.mtu.clock := by
        by_contra hle
        rw [State.rolloverEvent.eq_def, hb] at h'
        dsimp only at h'
        rw [if_neg hle] at h'
        cases h'
      have hevent : s.rolloverEvent .between = (s, some (.completion s.acu.accounts)) := by
        rw [State.rolloverEvent.eq_def, hb]
        exact if_pos hlt
      obtain rfl := hstage (congrArg Prod.snd hevent)
      rw [hevent]
      have hboundary : s.mtu.clock - b = (s.mtu.clock - b - 1) + 1 := by omega
      simp only [State.eventsBound, State.boundariesLeft, hb, Option.getD_some, RolloverStage.beforeRetirement,
        RolloverStage.eventsToTest, Bool.false_eq_true, if_true, if_false, Nat.sub_zero]
      rw [hboundary, Nat.add_mul, Nat.add_sub_cancel]
      omega
  | completion a =>
    obtain rfl := hstage rfl
    exact hstands (by simp [State.rolloverEvent]) (State.eventsBound_lt_of_stage rfl (Nat.lt_succ_self _))
  | retirement a =>
    obtain rfl := hstage rfl
    obtain ⟨b, hb⟩ := Option.isSome_iff_exists.mp (h.stage_book _ hj nofun)
    have hevent : s.rolloverEvent (.retirement a) = (s.stageRetirement b, some (.expiry a)) := by
      rw [State.rolloverEvent.eq_def, hb]
      rfl
    rw [hevent]
    simp only [State.eventsBound, State.boundariesLeft, State.stageRetirement, hb, Option.getD_some,
      RolloverStage.beforeRetirement, RolloverStage.eventsToTest, Bool.false_eq_true, if_true, if_false, Nat.sub_zero, Nat.sub_sub,
      Option.isSome_some]
    omega
  | expiry a =>
    obtain rfl := hstage rfl
    exact hstands (by simp [State.rolloverEvent]) (State.eventsBound_lt_of_stage rfl (Nat.lt_succ_self _))
  | support a =>
    obtain rfl := hstage rfl
    have hlen := s.unsupported_length
    exact hstands rfl (State.eventsBound_lt_of_stage rfl (by simp only [RolloverStage.eventsToTest]; omega))
  | intervalEnd a ps =>
    cases ps with
    | nil =>
      obtain rfl := hstage rfl
      exact hstands rfl (State.eventsBound_lt_of_stage rfl (Nat.lt_succ_self _))
    | cons p ps =>
      obtain rfl := hstage rfl
      exact hstands rfl (State.eventsBound_lt_of_stage rfl (Nat.lt_succ_self _))
  | snapshots a =>
    obtain rfl := hstage rfl
    exact hstands rfl (State.eventsBound_lt_of_stage rfl (Nat.lt_succ_self _))
  | nearRescan =>
    obtain rfl := hstage rfl
    exact hstands (by simp [State.rolloverEvent]) (State.eventsBound_lt_of_stage rfl (Nat.lt_succ_self _))
  | raise =>
    obtain rfl := hstage rfl
    exact hstands (State.raiseDispatch_arrived (.refl _)).bookInterval (State.eventsBound_lt_of_stage rfl (Nat.lt_succ_self _))

/-! ### The job's end -/

/-- What a ROLLOVER job leaves when it ends: b has reached c, the trigger is clear, and the engine is free. -/
structure State.RolledOver (s t : State) : Prop where
  keeps : s.RolloverKeeps t
  free : t.eng.job = none
  reached : t.eng.bookInterval = some s.mtu.clock
  clear : t.eng.housekeeping.flag = false

theorem Trigger.folded_flag (t : Trigger) : t.folded.flag = false := by
  unfold Trigger.folded
  split
  · rfl
  · exact Bool.eq_false_iff.mpr ‹_›

theorem State.jobEvent_of_rollover {s : State} {st : RolloverStage} (hj : s.eng.job = some (.rollover st)) :
    s.jobEvent = (s.rolloverEvent st).1.continueWith ((s.rolloverEvent st).2.map .rollover) := by
  rw [State.jobEvent, hj]

theorem State.RolloverKeeps.continueWith {s t : State} (h : s.RolloverKeeps t) (j : Option Job) :
    s.RolloverKeeps (t.continueWith j) := by
  obtain ⟨hmtu, hfrg, htiu, hdsp, hdvu, hproducts, haccounts, hactivations, hsettings⟩ := h
  cases j <;> exact ⟨hmtu, hfrg, htiu, hdsp, hdvu, hproducts, haccounts, hactivations, hsettings⟩

/-- The test that ends the job finds b at c. -/
theorem State.rolledOver_of_ends {s : State} {st : RolloverStage} (h : s.TimeInv) (hj : s.eng.job = some (.rollover st))
    (h' : (s.rolloverEvent st).2 = none) : s.RolledOver s.jobEvent := by
  obtain ⟨-, b, hb, hle, hevent⟩ := State.rolloverEvent_ends h'
  have hkeeps := (s.rolloverEvent_keeps st).continueWith none
  have hbc : b = s.mtu.clock := Nat.le_antisymm (h.book_le b hb) hle
  rw [State.jobEvent_of_rollover hj, h', Option.map_none]
  refine ⟨hkeeps, rfl, ?_, ?_⟩
  · rw [hevent, ← hbc]
    exact hb
  · rw [hevent]
    exact s.eng.housekeeping.folded_flag

/-- A job given as many events as it has left, or more, ends. -/
theorem State.jobEvents_rolledOver (n : Nat) {s : State} {st : RolloverStage} (h : s.TimeInv)
    (hj : s.eng.job = some (.rollover st)) (hn : s.eventsBound st ≤ n) : s.RolledOver (s.jobEvents n) := by
  induction n generalizing s st with
  | zero =>
    have hpos : 0 < s.eventsBound st := by
      rw [State.eventsBound]
      split <;> omega
    omega
  | succ n ih =>
    have hrest : s.jobEvents (n + 1) = s.jobEvent.jobEvents n := if_neg (by simp [hj])
    rw [hrest]
    cases hnext : (s.rolloverEvent st).2 with
    | none =>
      have hend := State.rolledOver_of_ends h hj hnext
      rwa [State.jobEvents_of_idle _ _ hend.free]
    | some st' =>
      have hevent : s.jobEvent = (s.rolloverEvent st).1.continueWith (some (.rollover st')) := by
        rw [State.jobEvent_of_rollover hj, hnext, Option.map_some]
      have hkeeps : s.RolloverKeeps s.jobEvent := hevent ▸ (s.rolloverEvent_keeps st).continueWith _
      have hlt := State.eventsBound_lt h hj hnext
      have hbound : s.jobEvent.eventsBound st' = (s.rolloverEvent st).1.eventsBound st' := by
        rw [hevent]
        rfl
      have hrolled := ih (s := s.jobEvent) (hevent ▸ (State.rolloverEvent_time h hj hnext).1) (by rw [hevent]; rfl) (by omega)
      exact ⟨hkeeps.trans hrolled.keeps, hrolled.free, hkeeps.mtu ▸ hrolled.reached, hrolled.clear⟩

theorem State.eventsBound_le {s : State} {st : RolloverStage} (hj : s.eng.job = some (.rollover st)) :
    s.eventsBound st ≤ s.eventsLeft := by
  have hboundaries : s.boundariesLeft st * (s.acu.records.length + 12)
      ≤ (s.mtu.clock - s.eng.bookInterval.getD s.mtu.origin) * (s.acu.records.length + 12) :=
    Nat.mul_le_mul_right _ (Nat.sub_le _ _)
  have hstart : (if s.eng.bookInterval.isSome then 1 else 2) ≤ 2 := by split <;> omega
  rw [State.eventsBound, State.eventsLeft, hj, Nat.add_mul]
  cases st <;> simp only [RolloverStage.eventsToTest] <;> omega

/-- Settles O43: every event of the job leaves fewer, so the row reaches the job's end. -/
theorem rolloverReachesClockInterval : Obligations.RolloverReachesClockInterval := by
  intro s st hs htime hj
  have hrolled := State.jobEvents_rolledOver s.eventsLeft htime hj (State.eventsBound_le hj)
  have hover : s.eng.rollingOver = true := by rw [Engine.rollingOver, hj]
  refine ⟨s.finishJob, congrArg _ ((State.act_running s _ hs).trans (by rw [if_pos hover]; rfl)), hrolled.free, hrolled.reached,
    hrolled.clear, ?_⟩
  obtain ⟨hmtu, hfrg, htiu, hdsp, hdvu, hproducts, haccounts, -, hsettings⟩ := hrolled.keeps
  exact ⟨hmtu, hfrg, htiu, hdsp, hdvu, haccounts, hproducts, hsettings⟩

end Sys2Proof.Machine
end

section
/-! PROOFS. ROLLUP, stage by stage and whole (4.4, 4.5, 11.4, 11.5). -/
namespace Sys2Proof.Machine

/-! ### The rollup result (R56 to R59) -/

theorem RollupSnapshot.current_iff {n : RollupSnapshot} {r : RawTelemetry} : n.current r = true ↔
    r.online = true ∧ (n.runSeconds.toNat + 2 ^ 32 - r.stamp.toNat) % 2 ^ 32 ≤ n.staleLimit := by
  have hage : (n.runSeconds - r.stamp).toNat = (n.runSeconds.toNat + 2 ^ 32 - r.stamp.toNat) % 2 ^ 32 := by
    rw [BitVec.toNat_sub]
    have := r.stamp.isLt
    congr 1
    omega
  rw [RollupSnapshot.current, Bool.and_eq_true, decide_eq_true_eq, hage]

theorem RollupSnapshot.siteResult_of_unassigned {n : RollupSnapshot} {i : Nat} (h : (n.registry.site i).group = none) :
    n.siteResult i = {} := by
  simp only [RollupSnapshot.siteResult, h]

theorem RollupSnapshot.siteResult_of_silent {n : RollupSnapshot} {i g : Nat} (h : (n.registry.site i).group = some g)
    (hraw : Table.get none n.raw i = none) : n.siteResult i = { member := some g } := by
  simp only [RollupSnapshot.siteResult, h, hraw]

theorem RollupSnapshot.siteResult_of_report {n : RollupSnapshot} {i g : Nat} {r : RawTelemetry}
    (h : (n.registry.site i).group = some g) (hraw : Table.get none n.raw i = some r) : n.siteResult i =
      if r.online = true ∧ (n.runSeconds.toNat + 2 ^ 32 - r.stamp.toNat) % 2 ^ 32 ≤ n.staleLimit then
        ⟨true, (n.registry.site i).discharge * n.registry.derating (n.registry.group g).curveClass false r.soc / 256,
          (n.registry.site i).charge * n.registry.derating (n.registry.group g).curveClass true r.soc / 256,
          (r.soc - (n.registry.site i).floor) * (n.registry.site i).energy / 1000,
          ((n.registry.group g).ceiling - r.soc) * (n.registry.site i).energy / 1000, r.measured, some g⟩
      else { member := some g } := by
  simp only [RollupSnapshot.siteResult, h, hraw]
  exact if_congr RollupSnapshot.current_iff rfl rfl

/-- The intake with the result of a snapshot. -/
def Intake.figuredBy (t : Intake) (n : RollupSnapshot) : Intake :=
  { t with sites := n.sites, groups := Table.tabulate {} Config.numGroups (groupSums n.sites) }

theorem Intake.figuredBy_site (t : Intake) (n : RollupSnapshot) {i : Nat} (h : i < 4096) :
    (t.figuredBy n).site i = n.siteResult i := by
  unfold Intake.site Intake.figuredBy RollupSnapshot.sites
  dsimp only
  rw [Table.get_tabulate, if_pos h]

theorem Intake.figuredBy_group (t : Intake) (n : RollupSnapshot) {g : Nat} (h : g < 64) :
    (t.figuredBy n).group g = groupSums n.sites g := by
  unfold Intake.group Intake.figuredBy
  dsimp only
  rw [Table.get_tabulate, if_pos h]

/-- What a filter takes from a tabulated list, where it does not take the default. -/
theorem Table.filter_tabulate {α : Type} [DecidableEq α] {d : α} (p : α → Bool) (hd : p d = false) (f : Nat → α) (n : Nat) :
    ((Table.tabulate d n f).filter (fun e => p e.2)).map (·.2) = ((List.range n).map f).filter p := by
  rw [Table.tabulate]
  induction List.range n with
  | nil => rfl
  | cons i l ih =>
    by_cases hi : f i = d
    · simp [hi, hd, ih]
    · by_cases hp : p (f i) = true
      · simp [hi, hp, ih]
      · simp [hi, hp, ih]

/-- The members whose figures a group's sums take (R58). -/
def RollupSnapshot.members (n : RollupSnapshot) (g : Nat) : List SiteResult :=
  ((List.range 4096).map n.siteResult).filter (fun x => decide (x.fresh = true ∧ x.member = some g))

theorem RollupSnapshot.freshMembers_eq (n : RollupSnapshot) (g : Nat) :
    (freshMembers n.sites g).map (·.2) = n.members g := by
  have hfilter : (fun x : SiteResult => x.fresh && x.member == some g) = fun x => decide (x.fresh = true ∧ x.member = some g) := by
    funext x
    rw [Bool.eq_iff_iff]
    simp
  have htake := Table.filter_tabulate (d := ({} : SiteResult)) (fun x => x.fresh && x.member == some g) rfl n.siteResult
    Config.numSites
  rw [RollupSnapshot.members, ← hfilter]
  exact htake

/-- A group's sums are those of its members (R58). -/
theorem RollupSnapshot.groupSums_eq (n : RollupSnapshot) (g : Nat) : groupSums n.sites g = {
    pUp := min 65535 ((n.members g).map (·.pUp)).sum
    pDn := min 65535 ((n.members g).map (·.pDn)).sum
    eUp := min 65535 ((n.members g).map (·.eUp)).sum
    eDn := min 65535 ((n.members g).map (·.eDn)).sum
    measured := ((n.members g).map (·.measured)).sum
    fresh := (n.members g).length } := by
  rw [groupSums, n.freshMembers_eq]
  rfl

/-! ### One event of the job -/

theorem State.jobEvent_of_rollup {s : State} {st : RollupStage} (hj : s.eng.job = some (.rollup st)) :
    s.jobEvent = (s.rollupEvent st).1.continueWith ((s.rollupEvent st).2.map .rollup) := by
  rw [State.jobEvent, hj]

theorem exec_rollup {s : State} {st : RollupStage} (extent : Extent) (hs : s.supply = .running)
    (hj : s.eng.job = some (.rollup st)) : exec (.rollup extent) s = .next (s.advance extent).choose := by
  have hup : s.eng.rollingUp = true := by rw [Engine.rollingUp, hj]
  exact congrArg _ ((State.act_running s _ hs).trans (by rw [if_pos hup]))

/-- An event after which the job goes on, at its next stage. -/
theorem exec_rollup_goes {s u : State} {st st' : RollupStage} (hs : s.supply = .running)
    (hj : s.eng.job = some (.rollup st)) (h : s.rollupEvent st = (u, some st')) :
    exec (.rollup .event) s = .next { u with eng := { u.eng with job := some (.rollup st') } } := by
  have hevent : s.jobEvent = { u with eng := { u.eng with job := some (.rollup st') } } := by
    rw [State.jobEvent_of_rollup hj, h]
    rfl
  refine (exec_rollup .event hs hj).trans (congrArg _ ?_)
  exact (congrArg State.choose hevent).trans (State.choose_of_job _ _ rfl)

/-! ### The stages -/

theorem State.count_withIntake (s : State) (t : Intake) (p : Port) (k : Notice) :
    State.count { s with tiu := t } p k = s.count p k := by cases p <;> rfl

theorem State.count_withVerifier (s : State) (v : Verifier) (p : Port) (k : Notice) :
    State.count { s with dvu := v } p k = s.count p k := by cases p <;> rfl

theorem State.count_rollupFigures (s : State) (n : RollupSnapshot) : (s.rollupFigures n).count .fleet .staleSites =
    if ∃ i ∈ n.previousFresh, ((s.tiu.figuredBy n).site i).fresh = false then min 255 (s.count .fleet .staleSites + 1)
    else s.count .fleet .staleSites := by
  have hraise : s.rollupFigures n = State.raiseIf { s with tiu := s.tiu.figuredBy n }
      (n.previousFresh.any (fun i => !((s.tiu.figuredBy n).site i).fresh)) .staleSites := by
    simp only [State.rollupFigures, Intake.figuredBy, Intake.site, RollupSnapshot.sites]
  rw [hraise, State.count_raiseIf_self, State.count_withIntake]
  refine if_congr ?_ rfl rfl
  have hroute : Notice.staleSites.routed .fleet = true := rfl
  rw [hroute, List.any_eq_true]
  simp

theorem State.rollupFigures_tiu (s : State) (n : RollupSnapshot) : (s.rollupFigures n).tiu = s.tiu.figuredBy n :=
  State.raiseIf_tiu _ _ _

theorem Commitment.timesShort_eq (r : Commitment) (shorts : List Shortfall) :
    r.timesShort shorts = shorts.countP (fun y => decide (r.hasShare y.group ∧ r.product ∈ y.mask)) := by
  rw [Commitment.timesShort, List.countP_eq_length_filter]
  congr 1
  refine List.filter_congr fun y _ => ?_
  rw [Bool.eq_iff_iff]
  simp

theorem DispatchUnit.active_iff {d : DispatchUnit} : d.active = true ↔
    (∃ e ∈ d.groups, e.2.published ≠ 0) ∨ ∃ e ∈ d.setpoints, e.2.value ≠ 0 := by
  simp only [DispatchUnit.active, Bool.or_eq_true, List.any_eq_true, decide_eq_true_eq]

theorem State.verificationWrite_eq (s : State) (x : Shortfall) (xs : List Shortfall) : ∃ v : Verifier,
    s.verificationWrite (x :: xs) = State.raise { s with dvu := v } .shortfall
    ∧ (s.dvu.capture = none →
      v = ⟨some ⟨s.mtu.clock, s.mtu.second, s.mtu.phase, x⟩, min 65535 (s.dvu.further + xs.length)⟩)
    ∧ ∀ c, s.dvu.capture = some c → v = ⟨some c, min 65535 (s.dvu.further + (x :: xs).length)⟩ := by
  refine ⟨_, rfl, fun h => ?_, fun c h => ?_⟩
  · simp only [h]
    rfl
  · simp only [h, saturate]

/-! ### The whole row -/

/-- The events that a job at a stage has left. -/
def RollupStage.eventsLeft : RollupStage → Nat
  | .snapshot => 6
  | .figures _ => 5
  | .rescan => 4
  | .verify => 3
  | .write _ => 2
  | .trigger => 1

theorem RollupStage.eventsLeft_le (st : RollupStage) : st.eventsLeft ≤ 6 := by
  cases st <;> simp [RollupStage.eventsLeft]

theorem State.rollupEvent_next {s : State} {st st' : RollupStage} (h : (s.rollupEvent st).2 = some st') :
    st.eventsLeft = st'.eventsLeft + 1 := by
  cases st <;> cases h <;> rfl

/-- The intake that a job at a stage leaves when it ends. -/
def State.intakeFrom (s : State) : RollupStage → Intake
  | .snapshot => s.tiu.figuredBy s.rollupSnapshot
  | .figures n => s.tiu.figuredBy n
  | _ => s.tiu

theorem State.intakeFrom_step {s : State} {st st' : RollupStage} (h : (s.rollupEvent st).2 = some st') :
    ((s.rollupEvent st).1.continueWith (some (.rollup st'))).intakeFrom st' = s.intakeFrom st := by
  cases st with
  | snapshot => cases h; rfl
  | figures n => cases h; exact s.rollupFigures_tiu n
  | rescan =>
    cases h
    change s.rollupRescan.tiu = s.tiu
    unfold State.rollupRescan
    split <;> simp
  | verify =>
    cases h
    change (s.attribute _).tiu = s.tiu
    unfold State.attribute
    split <;> rfl
  | write l =>
    cases h
    change (s.verificationWrite l).tiu = s.tiu
    unfold State.verificationWrite
    split
    · rfl
    · exact State.raise_tiu _ _
  | trigger => cases h

/-- What a rollup job leaves when it ends. -/
structure State.RolledUp (s : State) (st : RollupStage) (t : State) : Prop where
  eng : t.eng = { s.eng with
    job := none
    scratch := none
    dispatch := if s.dsp.active = true then s.eng.dispatch.raised else s.eng.dispatch
    copy := t.eng.copy }
  intake : t.tiu = s.intakeFrom st
  mtu : t.mtu = s.mtu
  frg : t.frg = s.frg
  acu : t.acu = s.acu
  dsp : t.dsp = s.dsp
  ring : t.cgr.ring = s.cgr.ring
  products : t.cmt.products = s.cmt.products
  queue : t.cmt.queue = s.cmt.queue
  issues : t.cmt.issues = s.cmt.issues

theorem State.raiseDispatchIf_of_kept {s : State} {j : Job} (hj : s.eng.job = some j) (hno : ∀ r, j ≠ .admission r) (b : Bool) :
    s.raiseDispatchIf b = { s with eng := { s.eng with
      dispatch := if b = true then s.eng.dispatch.raised else s.eng.dispatch } } := by
  cases b
  · rfl
  · exact State.raiseDispatch_of_kept hj hno

theorem State.rolledUp_of_trigger {s : State} (hj : s.eng.job = some (.rollup .trigger)) : s.RolledUp .trigger s.jobEvent := by
  have hevent : s.jobEvent = (s.raiseDispatchIf s.dsp.active).endJob := State.jobEvent_of_rollup hj
  rw [hevent, State.raiseDispatchIf_of_kept hj nofun]
  exact ⟨rfl, rfl, rfl, rfl, rfl, rfl, rfl, rfl, rfl, rfl⟩

/-- A job given as many events as it has left ends. -/
theorem State.jobEvents_rolledUp (n : Nat) {s : State} {st : RollupStage} (hj : s.eng.job = some (.rollup st))
    (hn : st.eventsLeft ≤ n) : s.RolledUp st (s.jobEvents n) := by
  induction n generalizing s st with
  | zero => cases st <;> simp [RollupStage.eventsLeft] at hn
  | succ n ih =>
    have hrest : s.jobEvents (n + 1) = s.jobEvent.jobEvents n := if_neg (by simp [hj])
    rw [hrest]
    cases hnext : (s.rollupEvent st).2 with
    | none =>
      obtain rfl := State.rollupEvent_ends hnext
      have hend := State.rolledUp_of_trigger hj
      rwa [State.jobEvents_of_idle _ _ (by rw [hend.eng])]
    | some st' =>
      have hevent : s.jobEvent = (s.rollupEvent st).1.continueWith (some (.rollup st')) := by
        rw [State.jobEvent_of_rollup hj, hnext, Option.map_some]
      have hleft := State.rollupEvent_next hnext
      have hrolled := ih (s := s.jobEvent) (st := st') (by rw [hevent]; rfl) (by omega)
      obtain ⟨hacu, hproducts, hdsp, hfrg, hring, hqueue, hissues, hmtu, -⟩ := s.rollupEvent_units st
      have heng : s.jobEvent.eng = { s.eng with job := some (.rollup st') } := by
        rw [hevent, ← (State.rollupEvent_frame hnext).1]
        rfl
      have hdsp' : s.jobEvent.dsp = s.dsp := by rw [hevent]; exact hdsp
      refine ⟨?_, ?_, ?_, ?_, ?_, hrolled.dsp.trans hdsp', ?_, ?_, ?_, ?_⟩
      · have := hrolled.eng
        rw [heng, hdsp'] at this
        exact this
      · rw [hrolled.intake, hevent]
        exact State.intakeFrom_step hnext
      · rw [hrolled.mtu, hevent]
        exact hmtu
      · rw [hrolled.frg, hevent]
        exact hfrg
      · rw [hrolled.acu, hevent]
        exact hacu
      · rw [hrolled.ring, hevent]
        exact hring
      · rw [hrolled.products, hevent]
        exact hproducts
      · rw [hrolled.queue, hevent]
        exact hqueue
      · rw [hrolled.issues, hevent]
        exact hissues

theorem State.finishJob_of_rollup {s : State} {st : RollupStage} (hj : s.eng.job = some (.rollup st)) :
    s.finishJob = s.jobEvents 6 := by
  rw [State.finishJob, State.eventsLeft, hj]

/-- Events given after a job's end do nothing. -/
theorem State.jobEvents_of_ended (n m : Nat) {s : State} (h : (s.jobEvents n).eng.job = none) :
    s.jobEvents (n + m) = s.jobEvents n := by
  induction n generalizing s with
  | zero => rw [Nat.zero_add, State.jobEvents_of_idle s m h, State.jobEvents_of_idle s 0 h]
  | succ n ih =>
    rw [Nat.succ_add]
    cases hj : s.eng.job with
    | none => rw [State.jobEvents_of_idle s _ hj, State.jobEvents_of_idle s _ hj]
    | some j =>
      have hone (k : Nat) : s.jobEvents (k + 1) = s.jobEvent.jobEvents k := if_neg (by simp [hj])
      rw [hone, hone]
      exact ih (hone n ▸ h)

/-- The whole row works what its first event and the whole row after it work. -/
theorem exec_rollup_whole_of_event {s t : State} {st : RollupStage} (hs : s.supply = .running)
    (hj : s.eng.job = some (.rollup st)) (hst : st ≠ .trigger) (h : exec (.rollup .event) s = .next t) :
    exec (.rollup .whole) s = exec (.rollup .whole) t := by
  obtain ⟨st', hnext⟩ : ∃ st', (s.rollupEvent st).2 = some st' :=
    Option.ne_none_iff_exists'.mp fun hnone => hst (State.rollupEvent_ends hnone)
  have hevent : s.jobEvent = (s.rollupEvent st).1.continueWith (some (.rollup st')) := by
    rw [State.jobEvent_of_rollup hj, hnext, Option.map_some]
  have hjt : s.jobEvent.eng.job = some (.rollup st') := by rw [hevent]; rfl
  have hsupply : s.jobEvent.supply = .running := by
    rw [hevent]
    exact (s.rollupEvent_units st).2.2.2.2.2.2.2.2.1.trans hs
  have ht : t = s.jobEvent := by
    have hrun := exec_rollup .event hs hj
    rw [h] at hrun
    exact (Host.Outcome.next.inj hrun).trans (State.choose_of_job _ _ hjt)
  have hleft := State.rollupEvent_next hnext
  have hroom := st.eventsLeft_le
  have hended := State.jobEvents_rolledUp 5 hjt (by omega)
  have hfinish : s.finishJob = s.jobEvent.finishJob := calc
    s.finishJob = s.jobEvents 6 := State.finishJob_of_rollup hj
    _ = s.jobEvent.jobEvents 5 := if_neg (by simp [hj])
    _ = s.jobEvent.jobEvents 6 := (State.jobEvents_of_ended 5 1 (by rw [hended.eng])).symm
    _ = s.jobEvent.finishJob := (State.finishJob_of_rollup hjt).symm
  rw [ht, exec_rollup .whole hs hj, exec_rollup .whole hsupply hjt]
  exact congrArg (fun u : State => Host.Outcome.next u.choose) hfinish

theorem exec_rollup_whole_of_trigger {s : State} (hs : s.supply = .running) (hj : s.eng.job = some (.rollup .trigger)) :
    exec (.rollup .whole) s = exec (.rollup .event) s := by
  have hended := State.rolledUp_of_trigger hj
  have hwhole : s.finishJob = s.jobEvent := calc
    s.finishJob = s.jobEvents 6 := State.finishJob_of_rollup hj
    _ = s.jobEvent.jobEvents 5 := if_neg (by simp [hj])
    _ = s.jobEvent := State.jobEvents_of_idle _ _ (by rw [hended.eng])
  rw [exec_rollup .whole hs hj, exec_rollup .event hs hj]
  exact congrArg (fun u : State => Host.Outcome.next u.choose) hwhole

theorem State.intakeFrom_frame (s : State) (st : RollupStage) :
    s.intakeFrom st = { s.tiu with sites := (s.intakeFrom st).sites, groups := (s.intakeFrom st).groups } := by
  cases st <;> simp only [State.intakeFrom, Intake.figuredBy]

/-- Settles O44: each stage's event, and the whole row by the events it has left. -/
theorem rollupWorksItsStages : Obligations.RollupWorksItsStages := by
  intro s hs shot raises figured at_ goes
  have hraises : s.dsp.active = true ↔ raises := DispatchUnit.active_iff
  have hfigured : ∀ (n : RollupSnapshot) (t : Intake) (u : State), u.tiu = t.figuredBy n → figured n u := by
    intro n t u hu
    have hsite : ∀ i, i < 4096 → u.tiu.site i = n.siteResult i := fun i hi => by rw [hu, Intake.figuredBy_site _ _ hi]
    refine ⟨fun i hi => ?_, fun g hg => ?_⟩
    · rw [hsite i hi]
      dsimp only
      split
      · exact RollupSnapshot.siteResult_of_unassigned ‹_›
      · exact RollupSnapshot.siteResult_of_silent ‹_› ‹_›
      · exact RollupSnapshot.siteResult_of_report ‹_› ‹_›
    · intro members
      have hmembers : members = n.members g := by
        simp only [members, RollupSnapshot.members]
        rw [List.map_congr_left fun i hi => hsite i (List.mem_range.mp hi)]
      rw [hmembers, hu, Intake.figuredBy_group _ _ hg, n.groupSums_eq]
  refine ⟨fun hj => exec_rollup_goes hs hj rfl, fun n hj => ?_, fun hj hb => ?_, fun b hj hb => ?_, fun hj => ?_,
    fun hj => exec_rollup_goes hs hj rfl, fun x xs hj => ?_, fun hj => ?_,
    fun st t hj hst h => exec_rollup_whole_of_event hs hj hst h, fun st hj => ?_⟩
  · have htiu := s.rollupFigures_tiu n
    refine ⟨s.rollupFigures n, exec_rollup_goes hs hj rfl, State.raiseIf_eng _ _ _, State.raiseIf_cgr _ _ _, State.raiseIf_dsp _ _ _,
      State.raiseIf_cmt _ _ _, State.raiseIf_acu _ _ _, State.raiseIf_mtu _ _ _, State.raiseIf_frg _ _ _, State.raiseIf_dvu _ _ _,
      ?_, hfigured n s.tiu _ htiu, ?_⟩
    · simp only [htiu, Intake.figuredBy]
    · rw [s.count_rollupFigures, htiu]
  · refine exec_rollup_goes hs hj ?_
    rw [State.rollupEvent, State.rollupRescan, hb]
  · refine exec_rollup_goes hs hj ?_
    rw [State.rollupEvent, State.rollupRescan, hb]
    rfl
  · intro gained delivering charged
    refine exec_rollup_goes hs hj ?_
    have hattribute : s.attribute s.shortGroups = { s with cmt := { s.cmt with records := s.cmt.records.map charged } } := by
      cases hb : s.eng.bookInterval with
      | none => simp [State.attribute, charged, delivering, hb]
      | some b =>
        simp only [State.attribute, charged, delivering, hb]
        congr 3
        funext x
        refine if_congr (by simp [Commitment.covers]) ?_ rfl
        rw [x.timesShort_eq]
        rfl
    rw [State.rollupEvent, hattribute]
  · obtain ⟨v, hwrite, hempty, hfull⟩ := s.verificationWrite_eq x xs
    refine ⟨_, exec_rollup_goes hs hj rfl, ?_⟩
    rw [hwrite]
    refine ⟨State.raise_eng _ _, State.raise_cmt _ _, State.raise_cgr _ _, State.raise_tiu _ _, State.raise_acu _ _,
      State.raise_dsp _ _, State.raise_mtu _ _, State.raise_frg _ _, fun h => ?_, fun c h => ?_, fun p => ?_⟩
    · rw [State.raise_dvu, hempty h]
    · rw [State.raise_dvu, hfull c h]
    · rw [State.count_raise, State.count_withVerifier]
      cases p <;> simp [Notice.routed]
  · have hevent : s.jobEvent = (s.raiseDispatchIf s.dsp.active).endJob := State.jobEvent_of_rollup hj
    have hrun := (exec_rollup .event hs hj).trans (congrArg (fun u : State => Host.Outcome.next u.choose) hevent)
    refine ⟨fun h => ?_, fun h => ?_, ?_⟩
    · rwa [hraises.mpr h] at hrun
    · rwa [Bool.eq_false_iff.mpr fun hactive => h (hraises.mp hactive)] at hrun
    · exact exec_rollup_whole_of_trigger hs hj
  · have hrolled := State.jobEvents_rolledUp 6 hj st.eventsLeft_le
    refine ⟨s.finishJob, exec_rollup .whole hs hj, ?_⟩
    rw [State.finishJob_of_rollup hj]
    obtain ⟨heng, hintake, hmtu, hfrg, hacu, hdsp, hring, hproducts, hqueue, hissues⟩ := hrolled
    refine ⟨?_, ?_, fun hst => ?_, fun n hst => ?_, fun hst hno => ?_, hmtu, hfrg, hacu, hdsp, hring, hproducts, hqueue, hissues⟩
    · refine heng.trans ?_
      by_cases hr : raises
      · rw [if_pos (hraises.mpr hr), if_pos hr]
      · rw [if_neg fun hactive => hr (hraises.mp hactive), if_neg hr]
    · rw [hintake]
      exact s.intakeFrom_frame st
    · subst hst
      exact hfigured shot s.tiu _ hintake
    · subst hst
      exact hfigured n s.tiu _ hintake
    · rw [hintake]
      cases st with
      | snapshot => exact absurd rfl hst
      | figures n => exact absurd rfl (hno n)
      | _ => rfl

end Sys2Proof.Machine
end
